-- ==== Sys2Proof/Word.lean ====
section
/-! DEFINITION. The widths of GS01-RAI: bytes, register values and addresses (00_scope R7), command and response
words (30_encoding R80, R82). -/

namespace Sys2Proof

/-- An unsigned 8-bit number (R9); also a Device Identity, `DEVID_W` = 8 (R7). -/
abbrev Byte := BitVec 8

/-- A register value or a register address, `VALUE_W` = `ADDR_W` = 16 (R7). -/
abbrev Word := BitVec 16

/-- The command word `CW` (R80). -/
abbrev CommandWord := BitVec 34

/-- The response word `RW` (R82). -/
abbrev ResponseWord := BitVec 18

end Sys2Proof
end

