-- ==== Sys2Proof/Machine/Catalog.lean ====
section
/-! DEFINITION. The Register Catalog (20_memory R59, R60) and the constants of 00_scope R7, each under its own name so
that an audit changes one value in one place (D40). -/

namespace Sys2Proof

/-- The two register spaces an operation names (20_memory R50). -/
inductive Space where
  | hold
  | input
deriving DecidableEq, Repr, Inhabited

/-- The semantic names of the catalog, `H0` to `H5` and `I0` to `I9` (10_state R21, R22). -/
inductive RegisterName where
  | deviceAddress
  | baudRate
  | parityStop
  | faceDetectThres
  | faceScoreThres
  | gestureScoreThres
  | pid
  | vid
  | hwVersion
  | swVersion
  | faceNumber
  | faceX
  | faceY
  | faceScore
  | gestureType
  | gestureScore
deriving DecidableEq, Repr

end Sys2Proof

namespace Sys2Proof.Catalog

/-- `N_HOLD`, the number of catalogued holding registers (R7). -/
abbrev nHold : Nat := 6
/-- `N_INPUT`, the number of catalogued input registers (R7). -/
abbrev nInput : Nat := 10

/-- Added to an input-register address on the direct bus only (R7, R88). -/
def inputOffset : Word := 6
/-- `T_SETTLE_MS`, the documented milliseconds between the select write and the block read, a minimum (R7, R134). An
instance is built with its own value, never a smaller one (R28, R136, U12). -/
def tSettleMs : Nat := 150
/-- `T_POST_MS`, the documented milliseconds between the block read and the outcome, a minimum (R7, R135). An instance is
built with its own value, never a smaller one (R28, R136, U12). -/
def tPostMs : Nat := 100
/-- Bytes fetched by the direct-bus block read (R7, R85). -/
def rdLen : Nat := 2
/-- Registers asked for in every serial read (R7, R170). -/
def rdCount : Nat := 1
/-- A returned sequence shorter than this yields the default (R7, R165). -/
def minRspLen : Nat := 3
/-- Index of the value's high byte in the returned sequence (R7). -/
def rspHiIdx : Nat := 1
/-- Index of the value's low byte in the returned sequence (R7). -/
def rspLoIdx : Nat := 2
/-- The value of a serial read on a short sequence or an error (R7, R166, R167). -/
def rdDefault : Word := 0

/-- `H0` (R59). -/
def deviceAddress : Word := 0x0000
/-- `H1` (R59). -/
def baudRate : Word := 0x0001
/-- `H2` (R59). -/
def parityStop : Word := 0x0002
/-- `H3` (R59). -/
def faceDetectThres : Word := 0x0003
/-- `H4` (R59). -/
def faceScoreThres : Word := 0x0004
/-- `H5` (R59). -/
def gestureScoreThres : Word := 0x0005

/-- `I0` (R60). -/
def pid : Word := 0x0000
/-- `I1` (R60). -/
def vid : Word := 0x0001
/-- `I2` (R60); no facade operation reads it (R207). -/
def hwVersion : Word := 0x0002
/-- `I3` (R60); no facade operation reads it (R207). -/
def swVersion : Word := 0x0003
/-- `I4` (R60). -/
def faceNumber : Word := 0x0004
/-- `I5` (R60). -/
def faceX : Word := 0x0005
/-- `I6` (R60). -/
def faceY : Word := 0x0006
/-- `I7` (R60). -/
def faceScore : Word := 0x0007
/-- `I8` (R60). -/
def gestureType : Word := 0x0008
/-- `I9` (R60). -/
def gestureScore : Word := 0x0009

/-- The fixed address of a name (R59, R60). -/
def address : RegisterName → Word
  | .deviceAddress => deviceAddress
  | .baudRate => baudRate
  | .parityStop => parityStop
  | .faceDetectThres => faceDetectThres
  | .faceScoreThres => faceScoreThres
  | .gestureScoreThres => gestureScoreThres
  | .pid => pid
  | .vid => vid
  | .hwVersion => hwVersion
  | .swVersion => swVersion
  | .faceNumber => faceNumber
  | .faceX => faceX
  | .faceY => faceY
  | .faceScore => faceScore
  | .gestureType => gestureType
  | .gestureScore => gestureScore

/-- The space of a name (R59, R60). -/
def space : RegisterName → Space
  | .deviceAddress => .hold
  | .baudRate => .hold
  | .parityStop => .hold
  | .faceDetectThres => .hold
  | .faceScoreThres => .hold
  | .gestureScoreThres => .hold
  | .pid => .input
  | .vid => .input
  | .hwVersion => .input
  | .swVersion => .input
  | .faceNumber => .input
  | .faceX => .input
  | .faceY => .input
  | .faceScore => .input
  | .gestureType => .input
  | .gestureScore => .input

/-- The Gesture Type codes, a reading aid for the requester: 1 LIKE, 2 OK, 3 STOP, 4 YES, 5 SIX, no meaning elsewhere
(10_state R35, 43_facade R205). No operation applies it to a value it returns. -/
def gestureName (w : Word) : Option String :=
  if w = 1 then some "LIKE" else if w = 2 then some "OK" else if w = 3 then some "STOP"
  else if w = 4 then some "YES" else if w = 5 then some "SIX" else none

end Sys2Proof.Catalog
end

