-- ==== Sys2Proof/Config.lean ====
section
/-! DEFINITION. What lies outside the block and what the spec leaves open: the device, the answers its environment may
give to a wire primitive, and the FREE VALUES (opaque: nothing can evaluate them or prove a value of one). -/

namespace Sys2Proof

/-- The two mutually exclusive transports (10_state R26). -/
inductive Transport where
  | direct
  | serial
deriving DecidableEq, Repr, Inhabited

/-- The strap bit of `CFG.TRANSPORT`, 0 DIRECT and 1 SERIAL (R26, the spec's decision D19). -/
def Transport.strap : Transport → BitVec 1
  | .direct => 0
  | .serial => 1

/-- The write status, two-valued (the spec's decision D15). -/
inductive Status where
  | ok
  | fail
deriving DecidableEq, Repr, Inhabited

/-- The three primitive operations (40_transport_capability R110); the type of the latch `OP`. -/
inductive Primitive where
  | rdi
  | rdh
  | wrh
deriving DecidableEq, Repr, Inhabited

/-- Serial Link Parameters (00_scope, glossary): baud rate, parity, stop-bit count. -/
structure SerialParams where
  baud     : Nat
  parity   : Byte
  stopBits : Byte
deriving DecidableEq, Repr, Inhabited

/-- The device's live address and serial parameters (10_state R38), which may differ from its registers (U17). -/
structure LiveSettings where
  addr   : Byte
  params : SerialParams
deriving DecidableEq, Repr, Inhabited

/-- The device at the far end of the link, as far as the spec describes it: the holding bank `H0` to `H5` (R21), the
input bank `I0` to `I9` (R22), the register selector and the live settings (R38). -/
structure Device where
  holding  : Vector Word Catalog.nHold
  input    : Vector Word Catalog.nInput
  selector : Word
  live     : LiveSettings
deriving DecidableEq, Repr, Inhabited

/-- What a register holds after a write was sent to it: the written word, or any other (the device's firmware is the
sole enforcer of values, U5; it may clamp, refuse, or not have seen a failed event, U13). -/
inductive Uptake where
  | taken
  | holds (w : Word)
deriving DecidableEq, Repr, Inhabited

/-- What the device does on its own, all of it unconstrained (00_scope R12, 20_memory R69). -/
structure Drift where
  /-- A new input bank: the device changes its telemetry on its own at any time (R12). -/
  input : Option (Vector Word Catalog.nInput)
  /-- New live settings: when the device adopts them is open (U17). -/
  live  : Option LiveSettings
deriving DecidableEq, Repr, Inhabited

/-- What the device does around one wire event: its own changes, and its reaction to the event (R69). -/
structure DeviceMove extends Drift where
  /-- What the written register (or, after a select that did not complete, the selector) holds. -/
  uptake : Uptake
  /-- The whole device after a store to an address that has no writable register (U4, U7). -/
  wild   : Option Device
deriving DecidableEq, Repr, Inhabited

/-- A device that takes what it is given and otherwise does nothing. -/
def DeviceMove.still : DeviceMove := { uptake := .taken, input := none, live := none, wild := none }

/-- What a read primitive hands back: any byte list, or (a special case, named so that a read-back can be spoken
of, R67) the content of the register the device was asked for. -/
inductive Supplied where
  | bytes (l : List Byte)
  | contents
deriving DecidableEq, Repr, Inhabited

/-- The environment's answer to a wire primitive that is under way: it returns, it fails, or it has not returned yet
(60_exceptions R250: it need never do). -/
inductive Answer (α : Type) where
  | returned (a : α)
  | failed
  | pending
deriving DecidableEq, Repr, Inhabited

/-- One reply of the environment: the answer, and what the device did meanwhile. -/
structure Reply (α : Type) where
  answer : Answer α
  move   : DeviceMove
deriving DecidableEq, Repr, Inhabited

/-- The transient latches `OP`, `ADDR`, `WDATA`, `EFF`, `RBUF` (10_state R39). -/
structure Latch where
  op    : Primitive
  addr  : Word
  wdata : Word
  eff   : Word
  rbuf  : List Byte
deriving DecidableEq, Repr, Inhabited

/-- FREE VALUE: the n-th reply to a `BlockWrite` for which nothing is queued (R69, R250). -/
opaque Config.blockWriteReply : Nat → Reply Unit

/-- FREE VALUE: the n-th reply to a `BlockRead` for which nothing is queued. -/
opaque Config.blockReadReply : Nat → Reply Supplied

/-- FREE VALUE: the n-th reply to an `RtuWriteHolding` for which nothing is queued. -/
opaque Config.rtuWriteReply : Nat → Reply Status

/-- FREE VALUE: the n-th reply to an `RtuReadHolding` or `RtuReadInput` for which nothing is queued. -/
opaque Config.rtuReadReply : Nat → Reply Supplied

/-- FREE VALUE: the n-th change of the device on its own, apart from wire events, where none is queued (R12). -/
opaque Config.drift : Nat → Drift

/-- FREE VALUE: what a device that answers from its registers supplies on the direct bus where its selector names
none (U4). -/
opaque Config.unmappedPhys : Nat → Word

/-- FREE VALUE: what a device that answers from its registers supplies on the serial link where the request names no
register (U4). -/
opaque Config.unmappedRegister : Nat → Word

/-- FREE VALUE: element 0 of a returned sequence made from a register's content, the "fixed header" whose value is not
in the source (N8, U9). -/
opaque Config.header : Nat → Byte

/-- FREE VALUE: the latches while the block is IDLE, unspecified and read by nothing (R39). -/
opaque Config.idleLatch : Nat → Latch

/-- The collaborator's three function selectors `FN_RD_IN`, `FN_RD_HOLD`, `FN_WR_HOLD`: pairwise distinct, values
unknown (30_encoding R96, D17). -/
inductive Config.FnSelector where
  | rdIn
  | rdHold
  | wrHold
deriving DecidableEq, Repr, Inhabited

/-- The collaborator's check computation, a stub of which nothing is assumed and which no operation of the block
computes, checks or sees (30_encoding R97, D18). -/
opaque Config.crc : List Byte → BitVec 16

end Sys2Proof
end

