-- ==== Sys2Proof/Machine/Operands.lean ====
section
/-! DEFINITION. Every operand form of the spec: splitting and combining a value, the effective address, the select's
`cmd` byte, the packed serial parameters, the serial response decoder. -/

namespace Sys2Proof.Machine

/-- `v[15:8]` (R9). -/
def highByte (v : Word) : Byte := v.extractLsb' 8 8

/-- `v[7:0]` (R9). -/
def lowByte (v : Word) : Byte := v.extractLsb' 0 8

/-- A value as it is sent, high byte first (20_memory R51). -/
def split (v : Word) : List Byte := [highByte v, lowByte v]

/-- `(b0 << 8) | b1` (20_memory R52). -/
def combine (b0 b1 : Byte) : Word := (b0.setWidth 16 <<< 8) ||| b1.setWidth 16

/-- The two bytes of a block read as a value; nothing for a list of another length (R131, D10). -/
def combineBytes : List Byte → Option Word
  | [b0, b1] => some (combine b0 b1)
  | _ => none

/-- The effective address of an input read on the direct bus, modulo 65536 (30_encoding R88, the spec's decision D6).
DEDUCED (notes/assumptions/15.md). -/
def inputEff (addr : Word) : Word := addr + Catalog.inputOffset

/-- `SEL_CMD(eff)`, the byte in the register-address position of a select write (R84, the spec's decision D7).
DEDUCED (notes/assumptions/14.md). -/
def selCmd (eff : Word) : Byte := highByte eff

/-- `(parity << 8) | stop_bits` (30_encoding R89). -/
def packUart (parity stopBits : Byte) : Word := (parity.setWidth 16 <<< 8) ||| stopBits.setWidth 16

/-- `DECODE(rsp)` (42_framed_serial R165): the default on a short sequence, else elements 1 and 2 high byte first. -/
def decodeRsp (rsp : List Byte) : Word :=
  if rsp.length < Catalog.minRspLen then Catalog.rdDefault
  else combine (rsp.getD Catalog.rspHiIdx 0) (rsp.getD Catalog.rspLoIdx 0)

/-- Does a direct-bus store at this address have a wire form: `addr[15:8]` is zero (R83, the spec's decision D8).
DEDUCED (notes/assumptions/16.md). -/
def storable (addr : Word) : Bool := highByte addr = 0

end Sys2Proof.Machine
end

