-- ==== Sys2Proof/Syntax.lean ====
section
/-! DEFINITION. The operations of GS01-RAI, one constructor per row of spec/opcode_table.json. An operand called
`ignored` is the `wdata` field of a read's command word, which no behaviour depends on (30_encoding R92). -/

namespace Sys2Proof

/-- An operation the requester may issue. -/
inductive Instr where
  /-- RDI, read input register (R111). -/
  | rdi (addr ignored : Word)
  /-- RDH, read holding register (R112). -/
  | rdh (addr ignored : Word)
  /-- WRH, write holding register (R113). -/
  | wrh (addr value : Word)
  /-- GET_PID (R192). -/
  | getPid (ignored : Word)
  /-- GET_VID (R193). -/
  | getVid (ignored : Word)
  /-- GET_FACE_NUMBER (R194). -/
  | getFaceNumber (ignored : Word)
  /-- GET_FACE_X (R195). -/
  | getFaceX (ignored : Word)
  /-- GET_FACE_Y (R196). -/
  | getFaceY (ignored : Word)
  /-- GET_FACE_SCORE (R197). -/
  | getFaceScore (ignored : Word)
  /-- GET_GESTURE_TYPE (R198). -/
  | getGestureType (ignored : Word)
  /-- GET_GESTURE_SCORE (R199). -/
  | getGestureScore (ignored : Word)
  /-- SET_ADDR (R203). -/
  | setAddr (value : Word)
  /-- SET_FACE_DETECT_THRES (R200). -/
  | setFaceDetectThres (value : Word)
  /-- SET_FACE_SCORE_THRES (R201). -/
  | setFaceScoreThres (value : Word)
  /-- SET_GESTURE_SCORE_THRES (R202). -/
  | setGestureScoreThres (value : Word)
  /-- CONFIG_UART, two command words (R204). -/
  | configUart (baud : Word) (parity stopBits : Byte)
  /-- The reserved operation code 0b11, whose two other fields are ignored (R91). -/
  | reserved (addr wdata : Word)
deriving DecidableEq, Repr

end Sys2Proof
end

