-- ==== Sys2Proof/WellFormed.lean ====
section
/-! DEFINITION. The canonical spelling of an operation. A command word that matches an alias also matches its primitive
and means the same (30_encoding R90); the canonical name of such a word is the alias, so an RDI or WRH at an alias's
address is the one thing that is not well formed (notes/assumptions/1.md). Operands of every other form are bit vectors
of the fields' widths and need no check. -/

namespace Sys2Proof

/-- Is this the address of a getter (R192 to R199)? -/
def getterAddress (a : Word) : Bool :=
  a = Catalog.pid || a = Catalog.vid || a = Catalog.faceNumber || a = Catalog.faceX || a = Catalog.faceY ||
  a = Catalog.faceScore || a = Catalog.gestureType || a = Catalog.gestureScore

/-- Is this the address of a single-write setter (R200 to R203)? -/
def setterAddress (a : Word) : Bool :=
  a = Catalog.deviceAddress || a = Catalog.faceDetectThres || a = Catalog.faceScoreThres ||
  a = Catalog.gestureScoreThres

/-- The canonical spelling of an operation. -/
def Instr.wellFormed : Instr → Bool
  | .rdi a _ => !getterAddress a
  | .rdh _ _ => true
  | .wrh a _ => !setterAddress a
  | .getPid _ => true
  | .getVid _ => true
  | .getFaceNumber _ => true
  | .getFaceX _ => true
  | .getFaceY _ => true
  | .getFaceScore _ => true
  | .getGestureType _ => true
  | .getGestureScore _ => true
  | .setAddr _ => true
  | .setFaceDetectThres _ => true
  | .setFaceScoreThres _ => true
  | .setGestureScoreThres _ => true
  | .configUart _ _ _ => true
  | .reserved _ _ => true

end Sys2Proof
end

