-- ==== Sys2Proof/Decode.lean ====
section
/-! DEFINITION. The decoder, total on every list of command words and rejecting by name, and after it the encoder
(30_encoding R80, R81, R90, R91, R95). -/

namespace Sys2Proof

open Sys2Proof.Machine (highByte lowByte packUart)

/-- Why a list of command words is no operation. -/
inductive DecodeError where
  /-- No word at all. -/
  | empty
  /-- Two words that are not the two words of CONFIG_UART, the one two-word operation (R90). -/
  | notASequence
  /-- More than two words. -/
  | tooManyWords
deriving DecidableEq, Repr

/-- `CW[33:32]` (R80). -/
def cwOp (w : CommandWord) : BitVec 2 := w.extractLsb' 32 2

/-- `CW[31:16]` (R80). -/
def cwAddr (w : CommandWord) : Word := w.extractLsb' 16 16

/-- `CW[15:0]` (R80). -/
def cwData (w : CommandWord) : Word := w.extractLsb' 0 16

/-- `op = 0b00`: an RDI, under its facade name where it has one (R90, R192 to R199). -/
def decodeRdi (a x : Word) : Instr :=
  if a = Catalog.pid then .getPid x
  else if a = Catalog.vid then .getVid x
  else if a = Catalog.faceNumber then .getFaceNumber x
  else if a = Catalog.faceX then .getFaceX x
  else if a = Catalog.faceY then .getFaceY x
  else if a = Catalog.faceScore then .getFaceScore x
  else if a = Catalog.gestureType then .getGestureType x
  else if a = Catalog.gestureScore then .getGestureScore x
  else .rdi a x

/-- `op = 0b10`: a WRH, under its facade name where it has one (R90, R200 to R203). -/
def decodeWrh (a v : Word) : Instr :=
  if a = Catalog.deviceAddress then .setAddr v
  else if a = Catalog.faceDetectThres then .setFaceDetectThres v
  else if a = Catalog.faceScoreThres then .setFaceScoreThres v
  else if a = Catalog.gestureScoreThres then .setGestureScoreThres v
  else .wrh a v

/-- The operation of one command word; every word has one (R81, R91). -/
def decodeWord (w : CommandWord) : Instr :=
  if cwOp w = 0b00 then decodeRdi (cwAddr w) (cwData w)
  else if cwOp w = 0b01 then .rdh (cwAddr w) (cwData w)
  else if cwOp w = 0b10 then decodeWrh (cwAddr w) (cwData w)
  else .reserved (cwAddr w) (cwData w)

/-- Do two words match the two patterns of CONFIG_UART (R90, R204)? -/
def isUartPair (w0 w1 : CommandWord) : Bool :=
  cwOp w0 = 0b10 && cwAddr w0 = Catalog.baudRate && cwOp w1 = 0b10 && cwAddr w1 = Catalog.parityStop

/-- The operation the command words of ONE request stand for. A single word is a primitive or an alias; the two words
of CONFIG_UART issued as one operation are CONFIG_UART, while either word alone is an ordinary WRH (R90, R95). DESIGN CHOICE
(notes/assumptions/2.md). -/
def decode : List CommandWord → Except DecodeError Instr
  | [] => .error .empty
  | [w] => .ok (decodeWord w)
  | [w0, w1] =>
    if isUartPair w0 w1 then .ok (.configUart (cwData w0) (highByte (cwData w1)) (lowByte (cwData w1)))
    else .error .notASequence
  | _ => .error .tooManyWords

/-- The command words of an instruction of `nbits` bits numbered as spec/opcode_table.json numbers them: 34 bits a
word, the first word lowest. A second word of zeros is no word of any two-word operation: the request is then the
first word alone. DESIGN CHOICE (notes/assumptions/25.md). -/
def tableWords (nbits w : Nat) : List CommandWord :=
  let v := w % 2 ^ nbits
  let second := BitVec.ofNat 34 (v / 2 ^ 34)
  if second = 0 then [BitVec.ofNat 34 v] else [BitVec.ofNat 34 v, second]

/-- What the decoder reads from an instruction given as one number. -/
def decodeTableWord (nbits w : Nat) : Option Instr :=
  match decode (tableWords nbits w) with
  | .ok i => some i
  | .error _ => none

/-- A command word from its fields (R80). -/
def commandWord (op : BitVec 2) (addr data : Word) : CommandWord := op ++ addr ++ data

/-- The command words of an operation (R80, R81, R95). -/
def encode : Instr → List CommandWord
  | .rdi a x => [commandWord 0b00 a x]
  | .rdh a x => [commandWord 0b01 a x]
  | .wrh a v => [commandWord 0b10 a v]
  | .getPid x => [commandWord 0b00 Catalog.pid x]
  | .getVid x => [commandWord 0b00 Catalog.vid x]
  | .getFaceNumber x => [commandWord 0b00 Catalog.faceNumber x]
  | .getFaceX x => [commandWord 0b00 Catalog.faceX x]
  | .getFaceY x => [commandWord 0b00 Catalog.faceY x]
  | .getFaceScore x => [commandWord 0b00 Catalog.faceScore x]
  | .getGestureType x => [commandWord 0b00 Catalog.gestureType x]
  | .getGestureScore x => [commandWord 0b00 Catalog.gestureScore x]
  | .setAddr v => [commandWord 0b10 Catalog.deviceAddress v]
  | .setFaceDetectThres v => [commandWord 0b10 Catalog.faceDetectThres v]
  | .setFaceScoreThres v => [commandWord 0b10 Catalog.faceScoreThres v]
  | .setGestureScoreThres v => [commandWord 0b10 Catalog.gestureScoreThres v]
  | .configUart b p s => [commandWord 0b10 Catalog.baudRate b, commandWord 0b10 Catalog.parityStop (packUart p s)]
  | .reserved a x => [commandWord 0b11 a x]

end Sys2Proof
end

