-- ==== Sys2Proof/Machine/State.lean ====
section
/-! DEFINITION. The state of GS01-RAI as plain data, everything spec/10_state.md gives it, and the state after reset. -/

namespace Sys2Proof.Machine

/-- Why a command is given no meaning. -/
inductive Refusal where
  /-- Raised by an arm of `exec` that has no meaning yet. Safe: the run stops. -/
  | notModelled (mnemonic : String)
  /-- Raised by WRH on DIRECT at an address above 0x00FF: the store has no defined wire form and the spec has the model
  refuse it (U6, D8, 41_direct_bus R130). Safe: the run stops. -/
  | storeAddressTooWide (addr : Word)
  /-- Raised by `step` for a construction with a delay shorter than the documented one, which the spec has the model
  refuse where no characterised device is given (U12, 41_direct_bus R136). Safe: the run stops. -/
  | delaysTooShort (settleMs postMs : Nat)
  /-- Raised by `step` for a request whose command words are no operation's (no word, two words that are not
  CONFIG_UART's, more than two): the spec knows no such request. Safe: the run stops. -/
  | malformedRequest
deriving DecidableEq, Repr

/-- Why the machine stops. -/
inductive Fault where
  /-- Raised by `step` when a command is presented and the link did not open at construction: there is no instance and
  no operation can be issued (R273, D38). Safe: the run stops. -/
  | noInstance
deriving DecidableEq, Repr

/-- The phase of the sequencer, `PHASE` (10_state R24). -/
inductive Phase where
  | idle
  | dbStore
  | dbSelect
  | dbSettle
  | dbFetch
  | dbPost
  | srXfer
deriving DecidableEq, Repr, Inhabited

/-- Where inside CONFIG_UART the facade decoder stands (43_facade R204): in no sequence; in the first write, holding
the second's value; in the second write, holding the first's status. -/
inductive Sequence where
  | single
  | uartFirst (packed : Word)
  | uartSecond (first : Status)
deriving DecidableEq, Repr, Inhabited

/-- The instance configuration: `CFG.TRANSPORT`, `CFG.DEV_ADDR` (10_state R26, R27), and the two delays, settable when
an instance is built and written by no operation (R28, 41_direct_bus R136). -/
structure Cfg where
  transport : Transport
  devAddr   : Byte
  settleMs  : Nat
  postMs    : Nat
deriving DecidableEq, Repr, Inhabited

/-- A configuration with the documented delays (00_scope R7). -/
def Cfg.documented (transport : Transport) (devAddr : Byte) : Cfg :=
  { transport := transport, devAddr := devAddr, settleMs := Catalog.tSettleMs, postMs := Catalog.tPostMs }

/-- Neither delay is shorter than the documented one (R136, U12). -/
def Cfg.delaysKept (c : Cfg) : Bool := Catalog.tSettleMs ≤ c.settleMs && Catalog.tPostMs ≤ c.postMs

/-- The link the transport owns (10_state R38; 70_reset_and_hazards R273, R283). -/
structure Link where
  isOpen : Bool
  params : SerialParams
deriving DecidableEq, Repr, Inhabited

/-- The fault causes a response word can carry (60_exceptions R237). -/
inductive Cause where
  | busFault
  | linkFault
  | illegalOp
deriving DecidableEq, Repr, Inhabited

/-- The outcome of an operation (00_scope R11). -/
inductive Result where
  | value (v : Word)
  | status (s : Status)
  | fault (c : Cause)
deriving DecidableEq, Repr, Inhabited

/-- The wire primitives (00_scope R10). -/
inductive WireEvent where
  | blockWrite (dev cmd : Byte) (data : List Byte)
  | blockRead (dev : Byte) (n : Nat)
  | delay (ms : Nat)
  | rtuWriteHolding (dev : Byte) (reg value : Word)
  | rtuReadHolding (dev : Byte) (reg : Word) (count : Nat)
  | rtuReadInput (dev : Byte) (reg : Word) (count : Nat)
deriving DecidableEq, Repr

/-- The collaborator's function selector of a serial request (30_encoding R96); the direct bus has none. -/
def WireEvent.selector : WireEvent → Option Config.FnSelector
  | .rtuWriteHolding _ _ _ => some .wrHold
  | .rtuReadHolding _ _ _ => some .rdHold
  | .rtuReadInput _ _ _ => some .rdIn
  | .blockWrite _ _ _ => none
  | .blockRead _ _ => none
  | .delay _ => none

/-- What came back for a wire event: a block write done, a byte list, a collaborator's status, or a failure. -/
inductive WireAnswer where
  | done
  | bytes (l : List Byte)
  | status (s : Status)
  | failed
deriving DecidableEq, Repr

/-- One entry of the trace: a wire event when it starts, its answer when it comes, an outcome when it is delivered. -/
inductive Entry where
  | wire (e : WireEvent)
  | answer (a : WireAnswer)
  | outcome (r : Result)
deriving DecidableEq, Repr

/-- What the requester asks of the block: an operation, by its command words, or a new instance (R284). `opens` says
whether the link opens at that construction (D38). -/
inductive Request where
  | command (words : List CommandWord)
  | construct (cfg : Cfg) (params : SerialParams) (opens : Bool)
deriving DecidableEq, Repr

/-- What the environment will give of one kind: what is queued, and how many have been drawn. -/
structure Feed (α : Type) where
  queued : List α
  drawn  : Nat
deriving DecidableEq, Repr, Inhabited

/-- The environment: a feed for each wire primitive that is answered, one for what the device does on its own apart
from wire events, and the count of returns to IDLE. -/
structure Env where
  blockWrites : Feed (Reply Unit)
  blockReads  : Feed (Reply Supplied)
  rtuWrites   : Feed (Reply Status)
  rtuReads    : Feed (Reply Supplied)
  drifts      : Feed Drift
  idles       : Nat
deriving DecidableEq, Repr, Inhabited

/-- The machine. -/
structure State where
  /-- The instance configuration, written by no operation (R26, R27). -/
  cfg      : Cfg
  /-- `PHASE` (R24). -/
  phase    : Phase
  /-- `OP`, `ADDR`, `WDATA`, `EFF`, `RBUF` (R39). -/
  latch    : Latch
  /-- The facade decoder's place in CONFIG_UART (R204). -/
  sequence : Sequence
  /-- The link (R38, R273). -/
  link     : Link
  /-- The device at the far end (R21, R22, R38). -/
  device   : Device
  /-- What the requester asks, the next first (R284). -/
  inbox    : List Request
  /-- The response port: `RW` when `rsp_valid`, else nothing (D1, R82). -/
  response : Option ResponseWord
  /-- The trace of the instance, oldest first (D34, R136). -/
  record   : List Entry
  /-- The environment's replies to come. -/
  env      : Env
deriving DecidableEq, Repr

/-- A device whose every register is zero. DESIGN CHOICE: the spec gives no value (notes/assumptions/8.md). -/
def blankDevice : Device :=
  { holding := #v[0, 0, 0, 0, 0, 0], input := #v[0, 0, 0, 0, 0, 0, 0, 0, 0, 0], selector := 0
    live := { addr := 0, params := { baud := 0, parity := 0, stopBits := 0 } } }

/-- An environment with nothing queued: every reply is a free value. DESIGN CHOICE (notes/assumptions/4.md). -/
def freeEnv : Env :=
  { blockWrites := { queued := [], drawn := 0 }, blockReads := { queued := [], drawn := 0 }
    rtuWrites := { queued := [], drawn := 0 }, rtuReads := { queued := [], drawn := 0 }
    drifts := { queued := [], drawn := 0 }, idles := 0 }

/-- `NEW(transport, dev_addr)`: a fresh instance on an opened link, nothing asked and nothing on the wire yet
(43_facade R191, 10_state R40, 70_reset_and_hazards R271, R272). -/
def State.new (cfg : Cfg) (params : SerialParams) : State :=
  { cfg := cfg
    phase := .idle
    latch := { op := .rdi, addr := 0, wdata := 0, eff := 0, rbuf := [] }
    sequence := .single
    link := { isOpen := true, params := params }
    device := blankDevice
    inbox := []
    response := none
    record := []
    env := freeEnv }

/-- The state after reset. DESIGN CHOICE: the straps have no default in the spec; DIRECT (strap 0), address 0 and zero
link parameters are the model's (notes/assumptions/7.md and 12.md). -/
def State.reset : State := State.new (Cfg.documented .direct 0) { baud := 0, parity := 0, stopBits := 0 }

end Sys2Proof.Machine
end

