-- ==== Sys2Proof/Machine/Flags.lean ====
section
/-! DEFINITION. GS01-RAI has no flag or condition code (10_state R25). What stands in their place is the outcome: the
fault codes, the combined status of CONFIG_UART and the response word. -/

namespace Sys2Proof.Machine

/-- The fault code of a cause (60_exceptions R237, the spec's decision D12). DEDUCED (notes/assumptions/17.md). -/
def Cause.code : Cause → Byte
  | .busFault => 0x01
  | .linkFault => 0x02
  | .illegalOp => 0x03

/-- OK if and only if both statuses are OK (43_facade R204, the spec's decision D24). DEDUCED (notes/assumptions/19.md). -/
def bothOk : Status → Status → Status
  | .ok, .ok => .ok
  | _, _ => .fail

/-- The outcome of CONFIG_UART from its first write's status and its second write's outcome (R204). -/
def uartResult (first : Status) : Result → Result
  | .status second => .status (bothOk first second)
  | .fault c => .fault c
  | .value v => .value v

/-- The 16-bit payload of a response word (30_encoding R82). -/
def Result.payload : Result → Word
  | .value v => v
  | .status .ok => 1
  | .status .fail => 0
  | .fault c => c.code.setWidth 16

/-- The two `kind` bits of a response word (R82). -/
def Result.kind : Result → BitVec 2
  | .value _ => 0b00
  | .status _ => 0b01
  | .fault _ => 0b10

/-- The response word of an outcome (R82). -/
def Result.toWord (r : Result) : ResponseWord := r.kind ++ r.payload

/-- The outcome a response word stands for; nothing for a word that is never produced (R82). -/
def readResponse (w : ResponseWord) : Option Result :=
  let kind : BitVec 2 := w.extractLsb' 16 2
  let payload : Word := w.extractLsb' 0 16
  if kind = 0b00 then some (.value payload)
  else if kind = 0b01 then
    if payload = 1 then some (.status .ok) else if payload = 0 then some (.status .fail) else none
  else if kind = 0b10 then
    if payload = 1 then some (.fault .busFault) else if payload = 2 then some (.fault .linkFault)
    else if payload = 3 then some (.fault .illegalOp) else none
  else none

end Sys2Proof.Machine
end

