-- ==== Sys2Proof/Machine/Ops.lean ====
section
/-! DEFINITION. The named operations over the state: the device's reactions, the environment's replies, issuing a wire
event, returning to IDLE, delivering an outcome, and raising a fault, which is ONE shared operation. -/

namespace Sys2Proof.Machine

/- ### The device (20_memory R61, R69) -/

/-- What the register holds after `written` was sent to it. -/
def uptakeWord (u : Uptake) (written : Word) : Word :=
  match u with
  | .taken => written
  | .holds w => w

/-- The device's own changes: its telemetry and its live settings (R12, U17). Its holding bank and its selector stay.
Whether the device keeps its holding registers across its own power cycle is not in the source (R275, N15): the model has
no power cycle of the device, so it keeps them. DESIGN CHOICE (notes/assumptions/29.md). -/
def deviceDrift (m : Drift) (d : Device) : Device :=
  { d with input := m.input.getD d.input, live := m.live.getD d.live }

/-- A value is sent to holding address `a` (on the direct bus `PHYS[a]`, the same register). An address without a
writable register may have any effect on the device, none included (U4, U7). DESIGN CHOICE
(notes/assumptions/9.md). Whether a write has taken effect when WRH returns is not in the source (R64): here what the
register holds is settled with the reply, and no earlier write takes effect later. DESIGN CHOICE
(notes/assumptions/28.md). -/
def deviceStore (a v : Word) (m : DeviceMove) (d : Device) : Device :=
  deviceDrift m.toDrift <|
    if h : a.toNat < Catalog.nHold then { d with holding := d.holding.set a.toNat (uptakeWord m.uptake v) }
    else m.wild.getD d

/-- A select write of `eff` (R38): it sets the selector when it completes; when it has not, it may or may not have had
an effect (U13). DESIGN CHOICE (notes/assumptions/11.md). -/
def deviceSelect (eff : Word) (completed : Bool) (m : DeviceMove) (d : Device) : Device :=
  deviceDrift m.toDrift { d with selector := if completed then eff else uptakeWord m.uptake eff }

/-- The direct bus's one address line: `PHYS[a] = HOLD[a]` for the holding bank, `PHYS[a + INPUT_OFFSET] = INPUT[a]`
(R61). -/
def phys? (d : Device) (a : Word) : Option Word :=
  if h : a.toNat < Catalog.nHold then some d.holding[a.toNat]
  else if h : (a - Catalog.inputOffset).toNat < Catalog.nInput then some d.input[(a - Catalog.inputOffset).toNat]
  else none

/-- The register of a space, where the map has one (R59, R60). -/
def register? (d : Device) (sp : Space) (a : Word) : Option Word :=
  match sp with
  | .hold => if h : a.toNat < Catalog.nHold then some d.holding[a.toNat] else none
  | .input => if h : a.toNat < Catalog.nInput then some d.input[a.toNat] else none

/-- The bytes a block read brings: any, or those of the selected register. DESIGN CHOICE (notes/assumptions/10.md). -/
def directBytes (sup : Supplied) (d : Device) (n : Nat) : List Byte :=
  match sup with
  | .bytes l => l
  | .contents => split ((phys? d d.selector).getD (Config.unmappedPhys n))

/-- The sequence the collaborator hands back: any, or a header byte and the register's two bytes (R87).
DESIGN CHOICE (notes/assumptions/10.md). -/
def serialBytes (sup : Supplied) (d : Device) (sp : Space) (a : Word) (n : Nat) : List Byte :=
  match sup with
  | .bytes l => l
  | .contents => Config.header n :: split ((register? d sp a).getD (Config.unmappedRegister n))

/- ### The environment's replies (60_exceptions R250) -/

/-- The next of a feed: the head of the queue, or a free value. -/
def Feed.head {α : Type} (free : Nat → α) (f : Feed α) : α :=
  match f.queued with
  | r :: _ => r
  | [] => free f.drawn

/-- The feed once that one is drawn. -/
def Feed.tail {α : Type} (f : Feed α) : Feed α := { queued := f.queued.tail, drawn := f.drawn + 1 }

/-- The reply the environment gives to the next `BlockWrite`. -/
def State.blockWriteReply (s : State) : Reply Unit := s.env.blockWrites.head Config.blockWriteReply
/-- The reply the environment gives to the next `BlockRead`. -/
def State.blockReadReply (s : State) : Reply Supplied := s.env.blockReads.head Config.blockReadReply
/-- The reply the environment gives to the next `RtuWriteHolding`. -/
def State.rtuWriteReply (s : State) : Reply Status := s.env.rtuWrites.head Config.rtuWriteReply
/-- The reply the environment gives to the next serial read. -/
def State.rtuReadReply (s : State) : Reply Supplied := s.env.rtuReads.head Config.rtuReadReply

/-- A `BlockWrite` reply is drawn. -/
def State.drewBlockWrite (s : State) : State := { s with env := { s.env with blockWrites := s.env.blockWrites.tail } }
/-- A `BlockRead` reply is drawn. -/
def State.drewBlockRead (s : State) : State := { s with env := { s.env with blockReads := s.env.blockReads.tail } }
/-- An `RtuWriteHolding` reply is drawn. -/
def State.drewRtuWrite (s : State) : State := { s with env := { s.env with rtuWrites := s.env.rtuWrites.tail } }
/-- A serial read's reply is drawn. -/
def State.drewRtuRead (s : State) : State := { s with env := { s.env with rtuReads := s.env.rtuReads.tail } }

/-- What the device does next on its own, apart from wire events. -/
def State.nextDrift (s : State) : Drift := s.env.drifts.head Config.drift

/- ### Named updates of the state -/

/-- `PHASE <- p`. -/
def State.enter (p : Phase) (s : State) : State := { s with phase := p }

/-- The latches of an operation that starts (R39); those it does not use keep what they hold. -/
def State.latched (op : Primitive) (addr eff : Word) (s : State) : State :=
  { s with latch := { s.latch with op := op, addr := addr, eff := eff } }

/-- `WDATA` is latched. -/
def State.latchedData (v : Word) (s : State) : State := { s with latch := { s.latch with wdata := v } }

/-- `RBUF` is latched. -/
def State.latchedBytes (l : List Byte) (s : State) : State := { s with latch := { s.latch with rbuf := l } }

/-- The device has changed. -/
def State.withDevice (d : Device) (s : State) : State := { s with device := d }

/-- The device runs on its own for a while (00_scope R12): with no wire event its telemetry and its live settings may
become anything. -/
def State.deviceRuns (s : State) : State :=
  { s with device := deviceDrift s.nextDrift s.device, env := { s.env with drifts := s.env.drifts.tail } }

/-- A wire event starts. -/
def State.issue (e : WireEvent) (s : State) : State := { s with record := s.record ++ [.wire e] }

/-- The answer to a wire event comes. -/
def State.note (a : WireAnswer) (s : State) : State := { s with record := s.record ++ [.answer a] }

/-- The facade decoder's place is set. -/
def State.withSequence (q : Sequence) (s : State) : State := { s with sequence := q }

/-- The block is IDLE again: its latches are unspecified from here on (R39), so they take a free value.
DESIGN CHOICE (notes/assumptions/6.md). -/
def State.toIdle (s : State) : State :=
  { s with phase := .idle, latch := Config.idleLatch s.env.idles, env := { s.env with idles := s.env.idles + 1 } }

/-- The outcome of the requester's operation is delivered at the response port (R11, R82) and nothing of the operation
stays behind (R25, R242). -/
def State.deliver (r : Result) (s : State) : State :=
  { s with sequence := .single, response := some r.toWord, record := s.record ++ [.outcome r] }

/-- The command port takes the next request: the response of the one before is over. -/
def State.accept (rest : List Request) (s : State) : State := { s with inbox := rest, response := none }

/-- A construction (R191, R270, R271): straps, PHASE, link; no wire event (R272). The device goes on as it is (R275) and
what the requester still has to ask is the requester's. The trace is the new instance's. DESIGN CHOICE
(notes/assumptions/24.md). -/
def State.construct (cfg : Cfg) (params : SerialParams) (opens : Bool) (s : State) : State :=
  { s with
    cfg := cfg
    phase := .idle
    latch := Config.idleLatch s.env.idles
    sequence := .single
    link := { isOpen := opens, params := params }
    response := none
    record := []
    env := { s.env with idles := s.env.idles + 1 } }

/- ### How far a primitive operation has come -/

/-- A primitive operation either waits for a wire primitive that has not returned, or has ended with its outcome, the
block in IDLE. -/
inductive Progress where
  | waiting (s : State)
  | ended (r : Result) (s : State)

/-- TAKING A FAULT, for every cause (60_exceptions R240): the operation stops here, nothing is saved, PHASE returns to
IDLE and the outcome is the fault. There is no return operation (R242). -/
def State.raiseFault (c : Cause) (s : State) : Progress := .ended (.fault c) s.toIdle

/-- A primitive operation ends normally. -/
def State.finish (r : Result) (s : State) : Progress := .ended r s.toIdle

/-- An operation of one primitive: its outcome is the primitive's. -/
def Progress.single : Progress → State
  | .waiting s => s.withSequence .single
  | .ended r s => s.deliver r

end Sys2Proof.Machine
end

