-- ==== Sys2Proof/Machine/DirectBus.lean ====
section
/-! DEFINITION. The direct-bus transport (spec/41_direct_bus.md). Each phase that waits for the bus driver is split in
two: the part that issues the wire event, and the part (`…Return`) that takes the environment's reply, which is also
where an operation that had to wait goes on. -/

namespace Sys2Proof.Machine

/-- DB_STORE, the reply to the block write (R130): OK when it completes, BUS_FAULT when it fails. -/
def dbStoreReturn (s : State) : Progress :=
  let r := s.blockWriteReply
  let t := s.drewBlockWrite.withDevice (deviceStore s.latch.eff s.latch.wdata r.move s.device)
  match r.answer with
  | .pending => .waiting t
  | .failed => (t.note .failed).raiseFault .busFault
  | .returned _ => (t.note .done).finish (.status .ok)

/-- `DB_WRH(addr, wdata)` (R130): one block write of the value's two bytes at the register address `addr[7:0]`. The
address is one that has a wire form (`storable`). -/
def dbWrh (addr v : Word) (s : State) : Progress :=
  dbStoreReturn <|
    (((s.latched .wrh addr addr).latchedData v).enter .dbStore).issue
      (.blockWrite s.cfg.devAddr (lowByte addr) (split v))

/-- DB_POST (R131, R135): the post delay, while the device runs on, then the value. -/
def dbPost (s : State) : Progress :=
  let t := (s.issue (.delay s.cfg.postMs)).deviceRuns
  match combineBytes s.latch.rbuf with
  | some v => t.finish (.value v)
  | none => t.raiseFault .busFault

/-- DB_FETCH, the reply to the block read (R131): two bytes, or BUS_FAULT (D10 for another length). -/
def dbFetchReturn (s : State) : Progress :=
  let r := s.blockReadReply
  let t := s.drewBlockRead.withDevice (deviceDrift r.move.toDrift s.device)
  match r.answer with
  | .pending => .waiting t
  | .failed => (t.note .failed).raiseFault .busFault
  | .returned sup =>
    let l := directBytes sup t.device s.env.blockReads.drawn
    let u := (t.note (.bytes l)).latchedBytes l
    if l.length = Catalog.rdLen then dbPost (u.enter .dbPost) else u.raiseFault .busFault

/-- DB_FETCH (R131): the block read. -/
def dbFetch (s : State) : Progress :=
  dbFetchReturn ((s.enter .dbFetch).issue (.blockRead s.cfg.devAddr Catalog.rdLen))

/-- DB_SETTLE (R131, R134): the settle delay, then the fetch. -/
def dbSettle (s : State) : Progress := dbFetch (s.issue (.delay s.cfg.settleMs))

/-- The select write's reply is drawn and the device has reacted to the select. -/
def selectAnswered (completed : Bool) (s : State) : State :=
  s.drewBlockWrite.withDevice (deviceSelect s.latch.eff completed s.blockWriteReply.move s.device)

/-- DB_SELECT, the reply to the select write (R131). -/
def dbSelectReturn (s : State) : Progress :=
  match s.blockWriteReply.answer with
  | .pending => .waiting (selectAnswered false s)
  | .failed => ((selectAnswered false s).note .failed).raiseFault .busFault
  | .returned _ => dbSettle (((selectAnswered true s).note .done).enter .dbSettle)

/-- `DB_READ(eff)` (R131): the select write carrying the low byte of the effective address. -/
def dbRead (op : Primitive) (addr eff : Word) (s : State) : Progress :=
  dbSelectReturn <|
    ((s.latched op addr eff).enter .dbSelect).issue (.blockWrite s.cfg.devAddr (selCmd eff) [lowByte eff])

/-- `DB_RDH(addr)` (R132): no offset. -/
def dbRdh (addr : Word) (s : State) : Progress := dbRead .rdh addr addr s

/-- `DB_RDI(addr)` (R133): the offset injection. -/
def dbRdi (addr : Word) (s : State) : Progress := dbRead .rdi addr (inputEff addr) s

end Sys2Proof.Machine
end

