-- ==== Sys2Proof/Machine/Serial.lean ====
section
/-! DEFINITION. The framed-serial transport (spec/42_framed_serial.md): the request handed to the framing collaborator,
and what its reply becomes. -/

namespace Sys2Proof.Machine

/-- SR_XFER of a write, the collaborator's reply (R161): its status unchanged, or LINK_FAULT when it raises (R174). -/
def srWriteReturn (s : State) : Progress :=
  let r := s.rtuWriteReply
  let t := s.drewRtuWrite.withDevice (deviceStore s.latch.eff s.latch.wdata r.move s.device)
  match r.answer with
  | .pending => .waiting t
  | .failed => (t.note .failed).raiseFault .linkFault
  | .returned st => (t.note (.status st)).finish (.status st)

/-- `SR_WRH(addr, wdata)` (R161): address and value passed whole and unchanged. -/
def srWrh (addr v : Word) (s : State) : Progress :=
  srWriteReturn <|
    (((s.latched .wrh addr addr).latchedData v).enter .srXfer).issue (.rtuWriteHolding s.cfg.devAddr addr v)

/-- The space a primitive reaches (10_state R23). -/
def spaceOf : Primitive → Space
  | .rdi => .input
  | .rdh => .hold
  | .wrh => .hold

/-- SR_XFER of a read, the collaborator's reply (R162): the decoded sequence, or the default when it raises (R167). -/
def srReadReturn (s : State) : Progress :=
  let r := s.rtuReadReply
  let t := s.drewRtuRead.withDevice (deviceDrift r.move.toDrift s.device)
  match r.answer with
  | .pending => .waiting t
  | .failed => (t.note .failed).finish (.value Catalog.rdDefault)
  | .returned sup =>
    let l := serialBytes sup t.device (spaceOf s.latch.op) s.latch.eff s.env.rtuReads.drawn
    ((t.note (.bytes l)).latchedBytes l).finish (.value (decodeRsp l))

/-- `SR_RDH(addr)` (R163). -/
def srRdh (addr : Word) (s : State) : Progress :=
  srReadReturn <|
    ((s.latched .rdh addr addr).enter .srXfer).issue (.rtuReadHolding s.cfg.devAddr addr Catalog.rdCount)

/-- `SR_RDI(addr)` (R164): no offset (R169). -/
def srRdi (addr : Word) (s : State) : Progress :=
  srReadReturn <|
    ((s.latched .rdi addr addr).enter .srXfer).issue (.rtuReadInput s.cfg.devAddr addr Catalog.rdCount)

/-- SR_XFER, the collaborator's reply to whichever request is with it. -/
def srReturn (s : State) : Progress :=
  match s.latch.op with
  | .wrh => srWriteReturn s
  | .rdh => srReadReturn s
  | .rdi => srReadReturn s

end Sys2Proof.Machine
end

