-- ==== Sys2Proof/Machine/Primitives.lean ====
section
/-! DEFINITION. The Transport Capability (spec/40_transport_capability.md): dispatch to the transport in use (R116), and
the meanings of RDI, RDH, WRH and of the reserved operation code. -/

namespace Sys2Proof.Machine

/-- RDI on the transport in use (R111, R116). -/
def readInput (addr : Word) (s : State) : Progress :=
  match s.cfg.transport with
  | .direct => dbRdi addr s
  | .serial => srRdi addr s

/-- RDH on the transport in use (R112, R116). -/
def readHolding (addr : Word) (s : State) : Progress :=
  match s.cfg.transport with
  | .direct => dbRdh addr s
  | .serial => srRdh addr s

/-- WRH on the transport in use (R113, R116), at an address that has a wire form there. -/
def writeHolding (addr v : Word) (s : State) : Progress :=
  match s.cfg.transport with
  | .direct => dbWrh addr v s
  | .serial => srWrh addr v s

/-- RDI (R111). The second operand is the ignored field (R92). -/
def execRdi (addr _ignored : Word) (s : State) : Host.Outcome State Fault Refusal :=
  .next (readInput addr s).single

/-- RDH (R112). -/
def execRdh (addr _ignored : Word) (s : State) : Host.Outcome State Fault Refusal :=
  .next (readHolding addr s).single

/-- WRH (R113). On DIRECT an address above 0x00FF has no wire form and is refused (R130, U6). -/
def execWrh (addr v : Word) (s : State) : Host.Outcome State Fault Refusal :=
  if s.cfg.transport = .direct && !storable addr then .refused (.storeAddressTooWide addr)
  else .next (writeHolding addr v s).single

/-- The reserved operation code (R91, R235): no wire event, `Fault(ILLEGAL_OP)`. -/
def execReserved (_addr _wdata : Word) (s : State) : Host.Outcome State Fault Refusal :=
  .next (s.raiseFault .illegalOp).single

end Sys2Proof.Machine
end

