-- ==== Sys2Proof/Machine/Facade.lean ====
section
/-! DEFINITION. The facade operations (spec/43_facade.md), each its expansion and nothing more (R190), and the
sequencing of CONFIG_UART. -/

namespace Sys2Proof.Machine

/-- A getter's expansion: the name's address and space are looked up in the catalog, and the read of that space is done
on the transport in use (R190). -/
def readRegister (n : RegisterName) (s : State) : Progress :=
  match Catalog.space n with
  | .input => readInput (Catalog.address n) s
  | .hold => readHolding (Catalog.address n) s

/-- A setter's expansion: the write of the name's address (R190). The one write there is reaches the holding space
(40_transport_capability R118), and every setter names a holding register. -/
def writeRegister (n : RegisterName) (v : Word) (s : State) : Progress := writeHolding (Catalog.address n) v s

/-- GET_PID (R192). -/
def execGetPid (_ignored : Word) (s : State) : Host.Outcome State Fault Refusal :=
  .next (readRegister .pid s).single

/-- GET_VID (R193). -/
def execGetVid (_ignored : Word) (s : State) : Host.Outcome State Fault Refusal :=
  .next (readRegister .vid s).single

/-- GET_FACE_NUMBER (R194). -/
def execGetFaceNumber (_ignored : Word) (s : State) : Host.Outcome State Fault Refusal :=
  .next (readRegister .faceNumber s).single

/-- GET_FACE_X (R195). -/
def execGetFaceX (_ignored : Word) (s : State) : Host.Outcome State Fault Refusal :=
  .next (readRegister .faceX s).single

/-- GET_FACE_Y (R196). -/
def execGetFaceY (_ignored : Word) (s : State) : Host.Outcome State Fault Refusal :=
  .next (readRegister .faceY s).single

/-- GET_FACE_SCORE (R197). -/
def execGetFaceScore (_ignored : Word) (s : State) : Host.Outcome State Fault Refusal :=
  .next (readRegister .faceScore s).single

/-- GET_GESTURE_TYPE (R198): the raw word, whatever it is (R205). -/
def execGetGestureType (_ignored : Word) (s : State) : Host.Outcome State Fault Refusal :=
  .next (readRegister .gestureType s).single

/-- GET_GESTURE_SCORE (R199). -/
def execGetGestureScore (_ignored : Word) (s : State) : Host.Outcome State Fault Refusal :=
  .next (readRegister .gestureScore s).single

/-- SET_ADDR (R203): the device's register, never `cfg.devAddr`. -/
def execSetAddr (v : Word) (s : State) : Host.Outcome State Fault Refusal :=
  .next (writeRegister .deviceAddress v s).single

/-- SET_FACE_DETECT_THRES (R200). -/
def execSetFaceDetectThres (v : Word) (s : State) : Host.Outcome State Fault Refusal :=
  .next (writeRegister .faceDetectThres v s).single

/-- SET_FACE_SCORE_THRES (R201). -/
def execSetFaceScoreThres (v : Word) (s : State) : Host.Outcome State Fault Refusal :=
  .next (writeRegister .faceScoreThres v s).single

/-- SET_GESTURE_SCORE_THRES (R202). -/
def execSetGestureScoreThres (v : Word) (s : State) : Host.Outcome State Fault Refusal :=
  .next (writeRegister .gestureScoreThres v s).single

/-- The second write of CONFIG_UART has come this far (R204). -/
def uartAfterSecond (first : Status) : Progress → State
  | .waiting s => s.withSequence (.uartSecond first)
  | .ended r s => s.deliver (uartResult first r)

/-- The first write of CONFIG_UART has come this far (R204): a status, whichever, leads to the second write; a fault
ends the operation. -/
def uartAfterFirst (packed : Word) : Progress → State
  | .waiting s => s.withSequence (.uartFirst packed)
  | .ended (.status first) s => uartAfterSecond first (writeRegister .parityStop packed s)
  | .ended (.fault c) s => s.deliver (.fault c)
  | .ended (.value v) s => s.deliver (.value v)

/-- CONFIG_UART (R204): the baud rate, then parity and stop bits packed, with no rollback, on either transport. -/
def execConfigUart (baud : Word) (parity stopBits : Byte) (s : State) : Host.Outcome State Fault Refusal :=
  .next (uartAfterFirst (packUart parity stopBits) (writeRegister .baudRate baud s))

/-- The primitive operation in progress goes on from the phase it waits in (60_exceptions R250). -/
def resumePrimitive (s : State) : Progress :=
  match s.phase with
  | .idle => .waiting s
  | .dbStore => dbStoreReturn s
  | .dbSelect => dbSelectReturn s
  | .dbSettle => dbSettle s
  | .dbFetch => dbFetchReturn s
  | .dbPost => dbPost s
  | .srXfer => srReturn s

/-- The operation in progress goes on; its place in CONFIG_UART says what its primitive's outcome becomes. -/
def State.resume (s : State) : State :=
  match s.sequence with
  | .single => (resumePrimitive s).single
  | .uartFirst packed => uartAfterFirst packed (resumePrimitive s)
  | .uartSecond first => uartAfterSecond first (resumePrimitive s)

end Sys2Proof.Machine
end

