-- ==== Sys2Proof/Machine/Dispatch.lean ====
section
/-! DEFINITION. The dispatch, one arm per constructor of `Instr`, each one direct call of its meaning. -/

namespace Sys2Proof.Machine

def exec (i : Instr) (s : State) : Host.Outcome State Fault Refusal :=
  match i with
  | .rdi addr x => Sys2Proof.Machine.execRdi addr x s
  | .rdh addr x => Sys2Proof.Machine.execRdh addr x s
  | .wrh addr v => Sys2Proof.Machine.execWrh addr v s
  | .getPid x => Sys2Proof.Machine.execGetPid x s
  | .getVid x => Sys2Proof.Machine.execGetVid x s
  | .getFaceNumber x => Sys2Proof.Machine.execGetFaceNumber x s
  | .getFaceX x => Sys2Proof.Machine.execGetFaceX x s
  | .getFaceY x => Sys2Proof.Machine.execGetFaceY x s
  | .getFaceScore x => Sys2Proof.Machine.execGetFaceScore x s
  | .getGestureType x => Sys2Proof.Machine.execGetGestureType x s
  | .getGestureScore x => Sys2Proof.Machine.execGetGestureScore x s
  | .setAddr v => Sys2Proof.Machine.execSetAddr v s
  | .setFaceDetectThres v => Sys2Proof.Machine.execSetFaceDetectThres v s
  | .setFaceScoreThres v => Sys2Proof.Machine.execSetFaceScoreThres v s
  | .setGestureScoreThres v => Sys2Proof.Machine.execSetGestureScoreThres v s
  | .configUart b p q => Sys2Proof.Machine.execConfigUart b p q s
  | .reserved a x => Sys2Proof.Machine.execReserved a x s

end Sys2Proof.Machine
end

