-- ==== Sys2Proof/Machine/Port.lean ====
section
/-! DEFINITION. The command port: how a request is taken by an IDLE block (40_transport_capability R115, D31), and what a
step does in each phase. -/

namespace Sys2Proof.Machine

/-- The command words of one operation are presented to an IDLE block whose inbox then holds `rest`. -/
def State.present (words : List CommandWord) (rest : List Request) (s : State) : Host.Outcome State Fault Refusal :=
  if s.link.isOpen then
    match decode words with
    | .ok i => exec i (s.accept rest)
    | .error _ => .refused .malformedRequest
  else .fault .noInstance

/-- A new instance is asked for (43_facade R191), with delays that are not shorter than the documented ones (U12). -/
def State.build (cfg : Cfg) (params : SerialParams) (opens : Bool) (rest : List Request) (s : State) :
    Host.Outcome State Fault Refusal :=
  if cfg.delaysKept then .next ((s.construct cfg params opens).accept rest)
  else .refused (.delaysTooShort cfg.settleMs cfg.postMs)

/-- An IDLE block takes the next request, if there is one. -/
def State.takeRequest (s : State) : Host.Outcome State Fault Refusal :=
  match s.inbox with
  | [] => .next s
  | .command words :: rest => s.present words rest
  | .construct cfg params opens :: rest => s.build cfg params opens rest

/-- An IDLE block takes a request; a busy one goes on with its operation and takes none. -/
def State.advance (s : State) : Host.Outcome State Fault Refusal :=
  match s.phase with
  | .idle => s.takeRequest
  | .dbStore => .next s.resume
  | .dbSelect => .next s.resume
  | .dbSettle => .next s.resume
  | .dbFetch => .next s.resume
  | .dbPost => .next s.resume
  | .srXfer => .next s.resume

end Sys2Proof.Machine
end

