-- ==== Sys2Proof/Machine/Step.lean ====
section
/-! DEFINITION. One step: the device runs on its own (00_scope R12), then an operation in progress goes on, or else the
next request is taken. There is no program counter and no fetch (10_state R24): a request is presented at the command
port, which accepts only in IDLE (R115, D31). DESIGN CHOICE: the inbox, and what one step is (notes/assumptions/3.md and
5.md). -/

namespace Sys2Proof.Machine

/-- One step of the machine. -/
def step (s : State) : Host.Outcome State Fault Refusal := s.deviceRuns.advance

/-- `s` with the instruction whose bits are `w` as the next request at an IDLE block on an open link, so that the next
step runs exactly it. -/
def State.withFetchWord (s : State) (nbits w : Nat) : State :=
  { s with phase := .idle, link := { s.link with isOpen := true }, inbox := .command (tableWords nbits w) :: s.inbox }

end Sys2Proof.Machine
end

