-- ==== Sys2Proof/Safety.lean ====
section
/-! DEFINITION. What counts as a lawful run, in the terms the claims use: the grammar of the trace (a monitor that reads
it entry by entry), the stage the state itself says it is in, and the invariant that the two agree. -/

namespace Sys2Proof.Machine

/-- How far the operation a trace speaks of has come, as the trace alone shows it. -/
inductive Stage where
  /-- No operation in progress. -/
  | quiet
  /-- A direct-bus store is out at register address `cmd`. -/
  | storing (cmd : Byte)
  /-- It completed. -/
  | stored (cmd : Byte)
  /-- The second store of CONFIG_UART is out. -/
  | storingSecond
  /-- It completed. -/
  | storedSecond
  /-- A select write is out. -/
  | selecting
  /-- It completed. -/
  | selected
  /-- The settle delay has passed. -/
  | settled
  /-- The block read is out. -/
  | fetching
  /-- It brought a value. -/
  | fetched (v : Word)
  /-- The post delay has passed. -/
  | posted (v : Word)
  /-- A block primitive failed. -/
  | busFaulted
  /-- A serial read is with the collaborator. -/
  | reading
  /-- It ended, with this value after the fallback. -/
  | hasRead (v : Word)
  /-- A serial write to `reg` is with the collaborator. -/
  | writing (reg : Word)
  /-- It ended with a status. -/
  | wrote (reg : Word) (st : Status)
  /-- The second write of CONFIG_UART is with the collaborator, the first having ended with `st`. -/
  | writingSecond (st : Status)
  /-- It ended, with the combined status. -/
  | wroteSecond (st : Status)
  /-- A serial write raised. -/
  | linkFaulted
  /-- The trace is not lawful. -/
  | broken
deriving DecidableEq, Repr

/-- An event lawful here leads to `g`, any other breaks the trace. -/
def goesTo (ok : Bool) (g : Stage) : Stage := if ok then g else .broken

/-- From no operation in progress: the first wire event of an operation of this instance's transport, addressed to its
own device. A block write of two bytes is a store, of one byte a select. -/
def stageFromQuiet (c : Cfg) : WireEvent → Stage
  | .blockWrite d cmd l =>
    if l.length = 2 then goesTo (c.transport = .direct && d = c.devAddr) (.storing cmd)
    else goesTo (c.transport = .direct && d = c.devAddr && l.length = 1) .selecting
  | .blockRead _ _ => .broken
  | .delay _ => .broken
  | .rtuWriteHolding d reg _ => goesTo (c.transport = .serial && d = c.devAddr) (.writing reg)
  | .rtuReadHolding d _ n => goesTo (c.transport = .serial && d = c.devAddr && n = 1) .reading
  | .rtuReadInput d _ n => goesTo (c.transport = .serial && d = c.devAddr && n = 1) .reading

/-- The answer to a block write, `g` being the stage once it has completed (R130, R131). -/
def stageFromBlockWrite (g : Stage) : WireAnswer → Stage
  | .done => g
  | .failed => .busFaulted
  | .bytes _ => .broken
  | .status _ => .broken

/-- From a completed store: the second store of CONFIG_UART (R130, R204). -/
def stageFromStored (c : Cfg) (cmd : Byte) : WireEvent → Stage
  | .blockWrite d cmd2 l => goesTo (cmd = 0x01 && cmd2 = 0x02 && d = c.devAddr && l.length = 2) .storingSecond
  | .blockRead _ _ => .broken
  | .delay _ => .broken
  | .rtuWriteHolding _ _ _ => .broken
  | .rtuReadHolding _ _ _ => .broken
  | .rtuReadInput _ _ _ => .broken

/-- The answer to a block read (R131, D10). -/
def stageFromFetching : WireAnswer → Stage
  | .bytes l =>
    match combineBytes l with
    | some v => .fetched v
    | none => .busFaulted
  | .failed => .busFaulted
  | .done => .broken
  | .status _ => .broken

/-- The collaborator's answer to a read (R162, R165 to R167). -/
def stageFromReading : WireAnswer → Stage
  | .bytes l => .hasRead (decodeRsp l)
  | .failed => .hasRead 0
  | .done => .broken
  | .status _ => .broken

/-- The collaborator's answer to a write, `g` giving the stage for its status (R161, R174). -/
def stageFromWriting (g : Status → Stage) : WireAnswer → Stage
  | .status st => g st
  | .failed => .linkFaulted
  | .done => .broken
  | .bytes _ => .broken

/-- From a serial write that ended: the second write of CONFIG_UART (R161, R204). -/
def stageFromWrote (c : Cfg) (reg : Word) (st : Status) : WireEvent → Stage
  | .rtuWriteHolding d reg2 _ => goesTo (reg = 0x0001 && reg2 = 0x0002 && d = c.devAddr) (.writingSecond st)
  | .blockWrite _ _ _ => .broken
  | .blockRead _ _ => .broken
  | .delay _ => .broken
  | .rtuReadHolding _ _ _ => .broken
  | .rtuReadInput _ _ _ => .broken

/-- A wire event starts. -/
def stageOnWire (c : Cfg) (g : Stage) (w : WireEvent) : Stage :=
  match g with
  | .quiet => stageFromQuiet c w
  | .stored cmd => stageFromStored c cmd w
  | .selected => goesTo (w = .delay c.settleMs) .settled
  | .settled => goesTo (w = .blockRead c.devAddr 2) .fetching
  | .fetched v => goesTo (w = .delay c.postMs) (.posted v)
  | .wrote reg st => stageFromWrote c reg st w
  | .storing _ => .broken
  | .storingSecond => .broken
  | .storedSecond => .broken
  | .selecting => .broken
  | .fetching => .broken
  | .posted _ => .broken
  | .busFaulted => .broken
  | .reading => .broken
  | .hasRead _ => .broken
  | .writing _ => .broken
  | .writingSecond _ => .broken
  | .wroteSecond _ => .broken
  | .linkFaulted => .broken
  | .broken => .broken

/-- The answer to a wire event comes. -/
def stageOnAnswer (g : Stage) (a : WireAnswer) : Stage :=
  match g with
  | .storing cmd => stageFromBlockWrite (.stored cmd) a
  | .storingSecond => stageFromBlockWrite .storedSecond a
  | .selecting => stageFromBlockWrite .selected a
  | .fetching => stageFromFetching a
  | .reading => stageFromReading a
  | .writing reg => stageFromWriting (.wrote reg) a
  | .writingSecond first => stageFromWriting (fun second => .wroteSecond (bothOk first second)) a
  | .quiet => .broken
  | .stored _ => .broken
  | .storedSecond => .broken
  | .selected => .broken
  | .settled => .broken
  | .fetched _ => .broken
  | .posted _ => .broken
  | .busFaulted => .broken
  | .hasRead _ => .broken
  | .wrote _ _ => .broken
  | .wroteSecond _ => .broken
  | .linkFaulted => .broken
  | .broken => .broken

/-- The outcome a stage may end in; from no operation in progress, that of a reserved operation code. -/
def stageResult (g : Stage) : Option Result :=
  match g with
  | .quiet => some (.fault .illegalOp)
  | .stored _ => some (.status .ok)
  | .storedSecond => some (.status .ok)
  | .posted v => some (.value v)
  | .busFaulted => some (.fault .busFault)
  | .hasRead v => some (.value v)
  | .wrote _ st => some (.status st)
  | .wroteSecond st => some (.status st)
  | .linkFaulted => some (.fault .linkFault)
  | .storing _ => none
  | .storingSecond => none
  | .selecting => none
  | .selected => none
  | .settled => none
  | .fetching => none
  | .fetched _ => none
  | .reading => none
  | .writing _ => none
  | .writingSecond _ => none
  | .broken => none

/-- The stage after one more entry (R131, R130, R161, R162, R204; order R64, R239). -/
def stageNext (c : Cfg) (g : Stage) (e : Entry) : Stage :=
  match e with
  | .wire w => stageOnWire c g w
  | .answer a => stageOnAnswer g a
  | .outcome r => goesTo (stageResult g = some r) .quiet

/-- The stage a whole trace ends in. -/
def traceStage (c : Cfg) (l : List Entry) : Stage := l.foldl (stageNext c) .quiet

/-- The stage the state itself says it is in: `PHASE`, the latches and the place in CONFIG_UART. -/
def stateStage (s : State) : Stage :=
  match s.phase with
  | .idle => .quiet
  | .dbStore =>
    match s.sequence with
    | .single => .storing (lowByte s.latch.eff)
    | .uartFirst _ => .storing (lowByte s.latch.eff)
    | .uartSecond _ => .storingSecond
  | .dbSelect => .selecting
  | .dbSettle => .selected
  | .dbFetch => .fetching
  | .dbPost =>
    match combineBytes s.latch.rbuf with
    | some v => .fetched v
    | none => .broken
  | .srXfer =>
    match s.latch.op with
    | .wrh =>
      match s.sequence with
      | .single => .writing s.latch.eff
      | .uartFirst _ => .writing s.latch.eff
      | .uartSecond first => .writingSecond first
    | .rdh => .reading
    | .rdi => .reading

/-- The transport whose phase this is (R24); IDLE is any transport's. -/
def phaseFits (t : Transport) (p : Phase) : Bool :=
  match p with
  | .idle => true
  | .dbStore => t = .direct
  | .dbSelect => t = .direct
  | .dbSettle => t = .direct
  | .dbFetch => t = .direct
  | .dbPost => t = .direct
  | .srXfer => t = .serial

/-- CONFIG_UART is in progress only in the phase of a write, its first write being to the baud register; on the direct
bus its first write can only have ended OK (R130, R204). -/
def sequenceFits (s : State) : Prop :=
  match s.sequence with
  | .single => True
  | .uartFirst _ => (s.phase = .dbStore ∨ (s.phase = .srXfer ∧ s.latch.op = .wrh)) ∧ s.latch.eff = Catalog.baudRate
  | .uartSecond first =>
    (s.phase = .dbStore ∨ (s.phase = .srXfer ∧ s.latch.op = .wrh)) ∧ (s.cfg.transport = .direct → first = .ok)

/-- The run so far is lawful: the trace follows the grammar and has come exactly as far as the state says, and the
instance was built with delays that are not too short (R136). -/
def Lawful (s : State) : Prop :=
  traceStage s.cfg s.record = stateStage s ∧ stateStage s ≠ .broken ∧ phaseFits s.cfg.transport s.phase = true ∧
    sequenceFits s ∧ s.cfg.delaysKept = true

/-- The outcomes a trace delivers, oldest first (R11). -/
def outcomes (l : List Entry) : List Result :=
  l.filterMap fun e => match e with
    | .outcome r => some r
    | .wire _ => none
    | .answer _ => none

/-- The wire events of a trace, oldest first (R10). -/
def wireEvents (l : List Entry) : List WireEvent :=
  l.filterMap fun e => match e with
    | .wire w => some w
    | .answer _ => none
    | .outcome _ => none

/-- The least time a trace takes, in milliseconds: the sum of its delays (70_reset_and_hazards R282). -/
def delayMs (l : List Entry) : Nat :=
  ((wireEvents l).map fun e => match e with
    | .delay ms => ms
    | .blockWrite _ _ _ => 0
    | .blockRead _ _ => 0
    | .rtuWriteHolding _ _ _ => 0
    | .rtuReadHolding _ _ _ => 0
    | .rtuReadInput _ _ _ => 0).sum

/-- The label FRAME_FAULT of an answer to a serial read: an error or a sequence too short (60_exceptions R232). It is
in no outcome and in no response word. -/
def isFrameFault : WireAnswer → Bool
  | .failed => true
  | .bytes l => l.length < Catalog.minRspLen
  | .done => false
  | .status _ => false

/-- A run is over: the last outcome is delivered, PHASE is IDLE and the requester asks nothing more (R285). -/
def runIsOver (s : State) : Bool := s.phase = .idle && s.inbox = []

end Sys2Proof.Machine
end

