-- ==== Sys2Proof/Certificates/Slice0/Obligations.lean ====
section
/-! DEFINITION. The statements for the provers. Values on the wire are written here in arithmetic (quotient and
remainder by 256), not with the model's own operand functions. -/

namespace Sys2Proof.Claims

open Sys2Proof.Machine

/-- The high byte of a word. -/
def hi (v : Word) : Byte := BitVec.ofNat 8 (v.toNat / 256)

/-- The low byte of a word. -/
def lo (v : Word) : Byte := BitVec.ofNat 8 (v.toNat % 256)

/-- Two bytes as a word, high byte first. -/
def valueOf (b0 b1 : Byte) : Word := BitVec.ofNat 16 (b0.toNat * 256 + b1.toNat)

/-- The input-register address on the direct bus: 6 more, modulo 65536. -/
def plusSix (a : Word) : Word := BitVec.ofNat 16 (a.toNat + 6)

/-- What a register holds that was sent `v`, by the device's move. -/
def held (m : DeviceMove) (v : Word) : Word :=
  match m.uptake with
  | .taken => v
  | .holds w => w

/-- The device's own changes of telemetry and live settings. -/
def moved (m : Drift) (d : Device) : Device :=
  { d with input := m.input.getD d.input, live := m.live.getD d.live }

/-- The device after `v` was sent to the holding register `a`. -/
def sent (a : Fin Catalog.nHold) (v : Word) (m : DeviceMove) (d : Device) : Device :=
  moved m.toDrift { d with holding := d.holding.set a.val (held m v) a.isLt }

/-- The device after a completed select of `eff`. -/
def pointed (eff : Word) (m : DeviceMove) (d : Device) : Device := moved m.toDrift { d with selector := eff }

/-- The device in `s` once it has run on its own, as it does at the start of a step. -/
def ranOn (s : State) : Device := moved s.nextDrift s.device

/-- The change of the device on its own after the next one. -/
def secondDrift (s : State) : Drift := s.env.drifts.tail.head Config.drift

/-- From `s` to `t` one operation has put `es` on the trace, delivered `r`, and left everything else of the block
alone: configuration, link, what the requester still asks. -/
def Delivers (s t : State) (es : List Entry) (r : Result) : Prop :=
  t.record = s.record ++ es ++ [.outcome r] ∧ t.response = some r.toWord ∧ t.phase = .idle ∧ t.sequence = .single ∧
    t.cfg = s.cfg ∧ t.link = s.link ∧ t.inbox = s.inbox

/-- From `s` to `t` an operation has come to wait in phase `ph`, at place `q` of CONFIG_UART, with `es` on the trace, no
outcome, and everything else of the block left alone. -/
def Waits (s t : State) (ph : Phase) (q : Sequence) (es : List Entry) : Prop :=
  t.record = s.record ++ es ∧ t.response = s.response ∧ t.phase = ph ∧ t.sequence = q ∧ t.cfg = s.cfg ∧
    t.link = s.link ∧ t.inbox = s.inbox

/-- The select write of `eff`. -/
def selectOf (c : Cfg) (eff : Word) : Entry := .wire (.blockWrite c.devAddr (hi eff) [lo eff])

/-- The store of `v` at the register address `cmd`. -/
def storeOf (c : Cfg) (cmd : Byte) (v : Word) : Entry := .wire (.blockWrite c.devAddr cmd [hi v, lo v])

/-- The serial write of `v` to `reg`. -/
def writeOf (c : Cfg) (reg v : Word) : Entry := .wire (.rtuWriteHolding c.devAddr reg v)

/-- From the completed select on, what a direct-bus read does before its block read is answered. -/
def settleAndFetch (c : Cfg) : List Entry := [.answer .done, .wire (.delay c.settleMs), .wire (.blockRead c.devAddr 2)]

/-- The two bytes of a block read, and the post delay. -/
def bytesAndPost (c : Cfg) (b0 b1 : Byte) : List Entry := [.answer (.bytes [b0, b1]), .wire (.delay c.postMs)]

/-- A direct-bus read of `eff` in `s` ends in `t` with the value of the two bytes. -/
def DirectReadEnds (s t : State) (eff : Word) (b0 b1 : Byte) : Prop :=
  Delivers s t (selectOf s.cfg eff :: settleAndFetch s.cfg ++ bytesAndPost s.cfg b0 b1) (.value (valueOf b0 b1)) ∧
    t.device = moved s.nextDrift (moved s.blockReadReply.move.toDrift (pointed eff s.blockWriteReply.move s.device))

/-- The next block read fails with the answer `ans`: it is no list, or one of other than two bytes. -/
def FetchFails (s : State) (ans : WireAnswer) : Prop :=
  (s.blockReadReply.answer = .failed ∧ ans = .failed) ∨
    ∃ l : List Byte, s.blockReadReply.answer = .returned (.bytes l) ∧ l.length ≠ 2 ∧ ans = .bytes l

/-- A direct-bus read of `eff` in `s` ends in `t` with BUS_FAULT at its block read, answered `ans`. -/
def DirectReadFails (s t : State) (eff : Word) (ans : WireAnswer) : Prop :=
  Delivers s t (selectOf s.cfg eff :: settleAndFetch s.cfg ++ [.answer ans]) (.fault .busFault) ∧
    t.device = moved s.blockReadReply.move.toDrift (pointed eff s.blockWriteReply.move s.device)

/-- A serial read by the request `e` in `s` ends in `t` with the value `v`, the collaborator having answered `ans`. -/
def SerialReadEnds (s t : State) (e : WireEvent) (ans : WireAnswer) (v : Word) : Prop :=
  Delivers s t [.wire e, .answer ans] (.value v) ∧ t.device = moved s.rtuReadReply.move.toDrift s.device

/-- What the collaborator answers to the next serial read in `s`, and the value that read then has: the decoded
sequence, or 0 when it raised an error. -/
def SerialReadAnswer (s : State) (ans : WireAnswer) (v : Word) : Prop :=
  (∃ l, s.rtuReadReply.answer = .returned (.bytes l) ∧ ans = .bytes l ∧ v = decodeRsp l) ∨
    (s.rtuReadReply.answer = .failed ∧ ans = .failed ∧ v = 0)

/-- The reply to the block write after the next one. -/
def secondBlockWrite (s : State) : Reply Unit := s.env.blockWrites.tail.head Config.blockWriteReply

/-- The reply to the serial write after the next one. -/
def secondRtuWrite (s : State) : Reply Status := s.env.rtuWrites.tail.head Config.rtuWriteReply

/-- The getters and the input registers they read (R192 to R199). -/
def getters : List ((Word → Instr) × Word) :=
  [(.getPid, 0), (.getVid, 1), (.getFaceNumber, 4), (.getFaceX, 5), (.getFaceY, 6), (.getFaceScore, 7),
    (.getGestureType, 8), (.getGestureScore, 9)]

/-- The single-write setters and the holding registers they write (R200 to R203). -/
def setters : List ((Word → Instr) × Fin Catalog.nHold) :=
  [(.setAddr, 0), (.setFaceDetectThres, 3), (.setFaceScoreThres, 4), (.setGestureScoreThres, 5)]

/-- The address of a holding register. -/
def holdAddr (a : Fin Catalog.nHold) : Word := BitVec.ofNat 16 a.val

/-- The wire events one instance may produce: its own transport's, to its own device, one register or two bytes, its own
delays. -/
def ownEvent (c : Cfg) : WireEvent → Prop
  | .blockWrite d _ l => c.transport = .direct ∧ d = c.devAddr ∧ (l.length = 1 ∨ l.length = 2)
  | .blockRead d n => c.transport = .direct ∧ d = c.devAddr ∧ n = 2
  | .delay ms => c.transport = .direct ∧ (ms = c.settleMs ∨ ms = c.postMs)
  | .rtuWriteHolding d _ _ => c.transport = .serial ∧ d = c.devAddr
  | .rtuReadHolding d _ n => c.transport = .serial ∧ d = c.devAddr ∧ n = 1
  | .rtuReadInput d _ n => c.transport = .serial ∧ d = c.devAddr ∧ n = 1

/-- OK exactly if both are. -/
def both (st1 st2 : Status) : Status := if st1 = .ok ∧ st2 = .ok then .ok else .fail

/-- The primitive that waits in `s` has still not returned. -/
def StillUnanswered (s : State) : Prop :=
  ((s.phase = .dbStore ∨ s.phase = .dbSelect) ∧ s.blockWriteReply.answer = .pending) ∨
    (s.phase = .dbFetch ∧ s.blockReadReply.answer = .pending) ∨
    (s.phase = .srXfer ∧ s.latch.op = .wrh ∧ s.rtuWriteReply.answer = .pending) ∨
    (s.phase = .srXfer ∧ s.latch.op ≠ .wrh ∧ s.rtuReadReply.answer = .pending)

/-- In `t` the register the latched write of `s` is for was sent the latched value, the device having run on first; an
address outside the catalog is not spoken of. -/
def LatchedWriteLands (s t : State) (m : DeviceMove) : Prop :=
  ∀ k : Fin Catalog.nHold, s.latch.eff = holdAddr k → t.device = sent k s.latch.wdata m (ranOn s)

/-- As `LatchedWriteLands`, and then H2 was sent `w`. -/
def BothWritesLand (s t : State) (m : DeviceMove) (w : Word) (m2 : DeviceMove) : Prop :=
  ∀ k : Fin Catalog.nHold, s.latch.eff = holdAddr k → t.device = sent 2 w m2 (sent k s.latch.wdata m (ranOn s))

end Sys2Proof.Claims

open Sys2Proof Sys2Proof.Machine Sys2Proof.Claims

/- ### Encodings -/

/-- Decoding an encoded well-formed operation gives it back, every operand at every value. The layout of the words is
the spec's own decision D2 and the canonical names are the model's choice (entries 1, 2, 17). -/
def Obligations.DecodeOfEncodeIsIdentity : Prop :=
  ∀ i : Instr, i.wellFormed = true → decode (encode i) = .ok i

/-- Whatever the decoder accepts is the encoding of what it answers, in canonical form: no two requests are one
operation. (Entries 1, 2, 17.) -/
def Obligations.EncodeOfDecodeIsIdentity : Prop :=
  ∀ (ws : List CommandWord) (i : Instr), decode ws = .ok i → encode i = ws ∧ i.wellFormed = true

/-- Words of 95_test_vectors 2.3 and 2.8 decode to the operations they stand for (layout D2; entries 1, 17). -/
def Obligations.SampleWordsDecode : Prop :=
  decode [0x000020000#34] = .ok (.rdi 0x0002 0) ∧ decode [0x0FFFF0000#34] = .ok (.rdi 0xFFFF 0) ∧
  decode [0x00008BEEF#34] = .ok (.getGestureType 0xBEEF) ∧ decode [0x100050000#34] = .ok (.rdh 0x0005 0) ∧
  decode [0x200060001#34] = .ok (.wrh 0x0006 1) ∧ decode [0x200000020#34] = .ok (.setAddr 0x0020) ∧
  decode [0x20005FFFF#34] = .ok (.setGestureScoreThres 0xFFFF) ∧
  decode [0x3FFFFFFFF#34] = .ok (.reserved 0xFFFF 0xFFFF) ∧
  decode [0x200012580#34, 0x200020002#34] = .ok (.configUart 9600 0 2)

/-- Either word of CONFIG_UART alone is an ordinary WRH; the two issued as one operation are CONFIG_UART (R90; entry 2
for the grouping). -/
def Obligations.UartWordsAloneAreOrdinaryWrites : Prop :=
  ∀ (b : Word) (p q : Byte) (w0 w1 : CommandWord), encode (.configUart b p q) = [w0, w1] →
    decode [w0] = .ok (.wrh 0x0001 b) ∧ decode [w1] = .ok (.wrh 0x0002 (valueOf p q)) ∧
      decode [w0, w1] = .ok (.configUart b p q)

/-- The response words are those of 95_test_vectors 2.3 and of the cause table; every outcome's word reads back as that
outcome, and a word that reads as an outcome is its word (layout D3, codes D12; entry 17). -/
def Obligations.ResponseWordsAreAsLaidOut : Prop :=
  (∀ v : Word, (Result.value v).toWord.toNat = v.toNat) ∧ (Result.status .fail).toWord = 0x10000 ∧
    (Result.status .ok).toWord = 0x10001 ∧ (Result.fault .busFault).toWord = 0x20001 ∧
    (Result.fault .linkFault).toWord = 0x20002 ∧ (Result.fault .illegalOp).toWord = 0x20003 ∧
    (∀ r : Result, readResponse r.toWord = some r) ∧
    ∀ (w : ResponseWord) (r : Result), readResponse w = some r → r.toWord = w

/- ### Operands -/

/-- R52: two received bytes give `(b0 << 8) | b1`; on the direct bus they are the two bytes of the block read in order,
on the serial link elements 1 and 2 of the returned sequence. -/
def Obligations.ReceivedBytesCombineHighFirst : Prop :=
  ∀ b0 b1 : Byte, (combine b0 b1).toNat = b0.toNat * 256 + b1.toNat ∧
    combineBytes [b0, b1] = some (valueOf b0 b1) ∧ ∀ (h : Byte) (l : List Byte), decodeRsp (h :: b0 :: b1 :: l) = valueOf b0 b1

/-- R53 and its converse (the converse is the spec's own inference): splitting and combining are inverse. -/
def Obligations.SplitAndCombineAreInverse : Prop :=
  (∀ v : Word, combineBytes (split v) = some v) ∧ ∀ b0 b1 : Byte, split (combine b0 b1) = [b0, b1]

/-- R165: a sequence of fewer than three elements decodes to 0, any other from elements 1 and 2, high byte first. -/
def Obligations.ResponseDecoderRule : Prop :=
  ∀ rsp : List Byte, (rsp.length < 3 → decodeRsp rsp = 0) ∧
    ∀ (h1 : 1 < rsp.length) (h2 : 2 < rsp.length), decodeRsp rsp = valueOf rsp[1] rsp[2]

/- ### Reset, construction, the step -/

/-- A construction puts nothing on the trace and asks nothing of the environment, on either transport; the block is IDLE
with the given configuration on an open link (R271, R272; D30). The trace and the response port are the model's (entry
13), and so is that a new instance leaves the device as it is and begins the record anew (entry 24). -/
def Obligations.ConstructionIsSilent : Prop :=
  ∀ (c : Cfg) (p : SerialParams) (s : State),
    (State.new c p).record = [] ∧ (State.new c p).cfg = c ∧ (State.new c p).phase = .idle ∧
      (State.new c p).link = { isOpen := true, params := p } ∧ (State.new c p).response = none ∧
      (s.construct c p true).record = [] ∧ (s.construct c p true).device = s.device ∧
      (s.construct c p true).env.blockWrites = s.env.blockWrites ∧
      (s.construct c p true).env.blockReads = s.env.blockReads ∧
      (s.construct c p true).env.rtuWrites = s.env.rtuWrites ∧ (s.construct c p true).env.rtuReads = s.env.rtuReads

/-- A construction asked of an IDLE block takes effect in one step (R191, R270, R271) if neither delay is shorter than
the documented one, and is refused by name otherwise (R136, U12; entry 27). That it is a request in the inbox, leaves the
rest of the inbox, and leaves the device as it is but for what the device does on its own, is the model's choice (entries
4, 24). -/
def Obligations.ConstructionRequestTakesEffect : Prop :=
  ∀ (s : State) (c : Cfg) (p : SerialParams) (o : Bool) (rest : List Request),
    s.phase = .idle → s.inbox = .construct c p o :: rest →
      (150 ≤ c.settleMs ∧ 100 ≤ c.postMs →
        ∃ t, step s = .next t ∧ t.cfg = c ∧ t.phase = .idle ∧ t.sequence = .single ∧
          t.link = { isOpen := o, params := p } ∧ t.response = none ∧ t.record = [] ∧ t.device = ranOn s ∧
          t.inbox = rest) ∧
      (c.settleMs < 150 ∨ c.postMs < 100 → step s = .refused (.delaysTooShort c.settleMs c.postMs))

/-- A step at an IDLE block runs the operation its next request decodes to, in the state in which the device has run on
its own, the request is taken and the response port cleared (how requests reach the port, and that the device runs first,
is the model's choice, entries 3, 4). -/
def Obligations.StepRunsDecodedOperation : Prop :=
  ∀ (s : State) (ws : List CommandWord) (rest : List Request) (i : Instr),
    s.phase = .idle → s.link.isOpen = true → s.inbox = .command ws :: rest → decode ws = .ok i →
      step s = exec i { s.deviceRuns with inbox := rest, response := none }

/-- An IDLE block that is asked nothing does nothing (R238, R285); the device may change its telemetry and its live
settings (R12; entries 4, 9). -/
def Obligations.IdleBlockWaits : Prop :=
  ∀ s : State, s.phase = .idle → s.inbox = [] →
    step s = .next { s with device := ranOn s, env := { s.env with drifts := s.env.drifts.tail } }

/-- R115: while an operation is in progress the command port accepts nothing, and neither the configuration nor the link
changes (D31). What a step then does is said by the four statements WaitingStoreGoesOn to WaitingSerialWriteGoesOn. -/
def Obligations.BusyPortAcceptsNothing : Prop :=
  ∀ s : State, s.phase ≠ .idle →
    ∃ t, step s = .next t ∧ t.inbox = s.inbox ∧ t.cfg = s.cfg ∧ t.link = s.link

/-- A command presented to an IDLE block stops with noInstance exactly when the link did not open (D38; entry 23), and
with malformedRequest exactly when there is an instance and its words are no operation's (entry 2). A command's one other
stop, WRH on DIRECT above 0x00FF (entry 16), is said by WideStoreOnDirectIsRefused and OnlyWideStoresStop. -/
def Obligations.NoInstanceAndMalformedStopsOccurExactly : Prop :=
  ∀ (s : State) (ws : List CommandWord) (rest : List Request), s.phase = .idle → s.inbox = .command ws :: rest →
    (step s = .fault .noInstance ↔ s.link.isOpen = false) ∧
      (step s = .refused .malformedRequest ↔ s.link.isOpen = true ∧ ∀ i, decode ws ≠ .ok i)

/- ### Completion: the primitives -/

/-- RDI on DIRECT: the select of `addr + 6`, the settle delay, the fetch, the post delay, the value high byte first
(R111, R131, R133). The wrap modulo 65536 is D6 and the select's `cmd` byte D7 (entries 14, 15); what the device's
registers and selector hold afterwards rests on entries 9 and 11. -/
def Obligations.RdiOnDirectCompletes : Prop :=
  ∀ (s : State) (a x : Word) (b0 b1 : Byte), s.cfg.transport = .direct → s.blockWriteReply.answer = .returned () →
    s.blockReadReply.answer = .returned (.bytes [b0, b1]) →
      ∃ t, exec (.rdi a x) s = .next t ∧ DirectReadEnds s t (plusSix a) b0 b1

/-- RDH on DIRECT: as RDI without the offset (R112, R131, R132). The select's `cmd` byte is D7 (entry 14);
what the device's registers and selector hold afterwards rests on entries 9 and 11. -/
def Obligations.RdhOnDirectCompletes : Prop :=
  ∀ (s : State) (a x : Word) (b0 b1 : Byte), s.cfg.transport = .direct → s.blockWriteReply.answer = .returned () →
    s.blockReadReply.answer = .returned (.bytes [b0, b1]) →
      ∃ t, exec (.rdh a x) s = .next t ∧ DirectReadEnds s t a b0 b1

/-- WRH on DIRECT at an address with a wire form: one block write of the two bytes, no delay, Status(OK) (R113, R130;
D13; entry 18). At a catalogued address the device's register is the only one touched (entries 9, 28). -/
def Obligations.WrhOnDirectCompletes : Prop :=
  ∀ (s : State) (a v : Word), s.cfg.transport = .direct → a.toNat < 256 → s.blockWriteReply.answer = .returned () →
    ∃ t, exec (.wrh a v) s = .next t ∧
      Delivers s t [storeOf s.cfg (lo a) v, .answer .done] (.status .ok) ∧
      ∀ k : Fin Catalog.nHold, a = holdAddr k → t.device = sent k v s.blockWriteReply.move s.device

/-- WRH on DIRECT above 0x00FF has no wire form and is refused by name (R130; D8, U6; entry 16). -/
def Obligations.WideStoreOnDirectIsRefused : Prop :=
  ∀ (s : State) (a v : Word), s.cfg.transport = .direct → 256 ≤ a.toNat →
    exec (.wrh a v) s = .refused (.storeAddressTooWide a)

/-- R164: RDI on SERIAL asks the collaborator for input register `addr`, unchanged, once, and its value is the decoded
sequence, or 0 on an error. That the read leaves holding bank and selector rests on entry 9. -/
def Obligations.RdiOnSerialCompletes : Prop :=
  ∀ (s : State) (a x : Word) (ans : WireAnswer) (v : Word), s.cfg.transport = .serial → SerialReadAnswer s ans v →
    ∃ t, exec (.rdi a x) s = .next t ∧ SerialReadEnds s t (.rtuReadInput s.cfg.devAddr a 1) ans v

/-- R163: RDH on SERIAL asks the collaborator for holding register `addr`, once, and its value is the decoded sequence,
or 0 on an error. That the read leaves holding bank and selector rests on entry 9. -/
def Obligations.RdhOnSerialCompletes : Prop :=
  ∀ (s : State) (a x : Word) (ans : WireAnswer) (v : Word), s.cfg.transport = .serial → SerialReadAnswer s ans v →
    ∃ t, exec (.rdh a x) s = .next t ∧ SerialReadEnds s t (.rtuReadHolding s.cfg.devAddr a 1) ans v

/-- WRH on SERIAL: one request with address and value whole, the collaborator's status unchanged (R113, R161). At a
catalogued address the device's register is the only one touched (entries 9, 28). -/
def Obligations.WrhOnSerialCompletes : Prop :=
  ∀ (s : State) (a v : Word) (st : Status), s.cfg.transport = .serial → s.rtuWriteReply.answer = .returned st →
    ∃ t, exec (.wrh a v) s = .next t ∧
      Delivers s t [writeOf s.cfg a v, .answer (.status st)] (.status st) ∧
      ∀ k : Fin Catalog.nHold, a = holdAddr k → t.device = sent k v s.rtuWriteReply.move s.device

/-- The reserved code: Fault(ILLEGAL_OP) at once, no wire event, the device and the environment untouched, on either
transport (R91, R235; D4; entry 18). -/
def Obligations.ReservedCodeFaults : Prop :=
  ∀ (s : State) (a x : Word), ∃ t, exec (.reserved a x) s = .next t ∧ Delivers s t [] (.fault .illegalOp) ∧
    t.device = s.device ∧ t.env.blockWrites = s.env.blockWrites ∧ t.env.blockReads = s.env.blockReads ∧
    t.env.rtuWrites = s.env.rtuWrites ∧ t.env.rtuReads = s.env.rtuReads

/- ### Completion: the facade -/

/-- Every getter reads its own input register (R192 to R199): on DIRECT at address + 6 (D7 for the `cmd` byte, entry 14),
on SERIAL without an offset. What the device's registers and selector hold afterwards rests on entries 9 and 11. -/
def Obligations.GettersComplete : Prop :=
  ∀ g ∈ getters, ∀ (s : State) (x : Word),
    (∀ b0 b1 : Byte, s.cfg.transport = .direct → s.blockWriteReply.answer = .returned () →
      s.blockReadReply.answer = .returned (.bytes [b0, b1]) →
        ∃ t, exec (g.1 x) s = .next t ∧ DirectReadEnds s t (plusSix g.2) b0 b1) ∧
    ∀ (ans : WireAnswer) (v : Word), s.cfg.transport = .serial → SerialReadAnswer s ans v →
      ∃ t, exec (g.1 x) s = .next t ∧ SerialReadEnds s t (.rtuReadInput s.cfg.devAddr g.2 1) ans v

/-- Every single-write setter writes its operand, whatever it is, to its own holding register and to nothing else, and
passes the write's status through (R200 to R203, R206; D23, D13; entry 18). That no other register is touched rests on
entries 9 and 28. -/
def Obligations.SettersComplete : Prop :=
  ∀ g ∈ setters, ∀ (s : State) (v : Word),
    (s.cfg.transport = .direct → s.blockWriteReply.answer = .returned () →
      ∃ t, exec (g.1 v) s = .next t ∧
        Delivers s t [storeOf s.cfg (lo (holdAddr g.2)) v, .answer .done] (.status .ok) ∧
        t.device = sent g.2 v s.blockWriteReply.move s.device) ∧
    ∀ st : Status, s.cfg.transport = .serial → s.rtuWriteReply.answer = .returned st →
      ∃ t, exec (g.1 v) s = .next t ∧
        Delivers s t [writeOf s.cfg (holdAddr g.2) v, .answer (.status st)] (.status st) ∧
        t.device = sent g.2 v s.rtuWriteReply.move s.device

/-- CONFIG_UART writes the baud rate, then parity and stop bits packed, in that order, on either transport; on SERIAL both
writes whatever the first's status, OK exactly if both are OK, no rollback (R204; D24, D25; entry 19). That no other
register is touched rests on entries 9 and 28. -/
def Obligations.ConfigUartCompletes : Prop :=
  ∀ (s : State) (b : Word) (p q : Byte),
    (s.cfg.transport = .direct → s.blockWriteReply.answer = .returned () → (secondBlockWrite s).answer = .returned () →
      ∃ t, exec (.configUart b p q) s = .next t ∧
        Delivers s t
          [storeOf s.cfg 0x01 b, .answer .done, .wire (.blockWrite s.cfg.devAddr 0x02 [p, q]), .answer .done]
          (.status .ok) ∧
        t.device = sent 2 (valueOf p q) (secondBlockWrite s).move (sent 1 b s.blockWriteReply.move s.device)) ∧
    ∀ st1 st2 : Status, s.cfg.transport = .serial → s.rtuWriteReply.answer = .returned st1 →
      (secondRtuWrite s).answer = .returned st2 →
      ∃ t, exec (.configUart b p q) s = .next t ∧
        Delivers s t
          [writeOf s.cfg 0x0001 b, .answer (.status st1), writeOf s.cfg 0x0002 (valueOf p q), .answer (.status st2)]
          (.status (both st1 st2)) ∧
        t.device = sent 2 (valueOf p q) (secondRtuWrite s).move (sent 1 b s.rtuWriteReply.move s.device)

/-- A fault in CONFIG_UART's first write ends it, the second write not being issued; a fault in the second leaves the
first done (R204, R239, R241, R279; D11, D14, D24, D25; entries 18, 19). What H1 and H2 then hold, and that nothing else is
touched, rests on entries 9, 11 and 28. -/
def Obligations.ConfigUartStopsAtFault : Prop :=
  ∀ (s : State) (b : Word) (p q : Byte),
    (s.cfg.transport = .direct → s.blockWriteReply.answer = .failed →
      ∃ t, exec (.configUart b p q) s = .next t ∧
        Delivers s t [.wire (.blockWrite s.cfg.devAddr 0x01 [hi b, lo b]), .answer .failed] (.fault .busFault) ∧
        t.device = sent 1 b s.blockWriteReply.move s.device) ∧
    (s.cfg.transport = .direct → s.blockWriteReply.answer = .returned () → (secondBlockWrite s).answer = .failed →
      ∃ t, exec (.configUart b p q) s = .next t ∧
        Delivers s t
          [.wire (.blockWrite s.cfg.devAddr 0x01 [hi b, lo b]), .answer .done,
            .wire (.blockWrite s.cfg.devAddr 0x02 [p, q]), .answer .failed] (.fault .busFault) ∧
        t.device = sent 2 (valueOf p q) (secondBlockWrite s).move (sent 1 b s.blockWriteReply.move s.device)) ∧
    (s.cfg.transport = .serial → s.rtuWriteReply.answer = .failed →
      ∃ t, exec (.configUart b p q) s = .next t ∧
        Delivers s t [.wire (.rtuWriteHolding s.cfg.devAddr 0x0001 b), .answer .failed] (.fault .linkFault) ∧
        t.device = sent 1 b s.rtuWriteReply.move s.device) ∧
    (∀ st1, s.cfg.transport = .serial → s.rtuWriteReply.answer = .returned st1 → (secondRtuWrite s).answer = .failed →
      ∃ t, exec (.configUart b p q) s = .next t ∧
        Delivers s t
          [.wire (.rtuWriteHolding s.cfg.devAddr 0x0001 b), .answer (.status st1),
            .wire (.rtuWriteHolding s.cfg.devAddr 0x0002 (valueOf p q)), .answer .failed] (.fault .linkFault) ∧
        t.device = sent 2 (valueOf p q) (secondRtuWrite s).move (sent 1 b s.rtuWriteReply.move s.device))

/-- R190: a single-command facade operation is its primitive at its catalog address and nothing more, in every state. -/
def Obligations.FacadeIsItsExpansion : Prop :=
  (∀ g ∈ getters, ∀ (x y : Word) (s : State), exec (g.1 x) s = exec (.rdi g.2 y) s) ∧
    ∀ g ∈ setters, ∀ (v : Word) (s : State), exec (g.1 v) s = exec (.wrh (holdAddr g.2) v) s

/- ### Faults and masked failures -/

/-- A failed select ends a direct-bus read with BUS_FAULT: no delay, no block read (R131, R231, R239, R240; D11; entry
18). The `cmd` byte is D7 and the wrap D6 (entries 14, 15); that no holding register is touched rests on entry 9. -/
def Obligations.FailedSelectFaults : Prop :=
  ∀ (s : State) (a x : Word), s.cfg.transport = .direct → s.blockWriteReply.answer = .failed →
    (∃ t, exec (.rdi a x) s = .next t ∧
      Delivers s t [selectOf s.cfg (plusSix a), .answer .failed] (.fault .busFault) ∧
        t.device.holding = s.device.holding) ∧
    ∃ t, exec (.rdh a x) s = .next t ∧ Delivers s t [selectOf s.cfg a, .answer .failed] (.fault .busFault) ∧
      t.device.holding = s.device.holding

/-- A failed block read, or one of other than two bytes (D10), ends RDI and RDH on DIRECT with BUS_FAULT after the settle
delay and without the post delay (R131, R231, R240, R241; D10, D11; entry 18). The `cmd` byte is D7 and the wrap D6
(entries 14, 15); that the selector has been written and the holding bank not rests on entries 9 and 11. -/
def Obligations.FailedFetchFaults : Prop :=
  ∀ (s : State) (a x : Word) (ans : WireAnswer), s.cfg.transport = .direct → s.blockWriteReply.answer = .returned () →
    FetchFails s ans →
      (∃ t, exec (.rdi a x) s = .next t ∧ DirectReadFails s t (plusSix a) ans) ∧
        ∃ t, exec (.rdh a x) s = .next t ∧ DirectReadFails s t a ans

/-- A failed block write ends a direct-bus WRH with BUS_FAULT (R113, R231; D13; entry 18). What the register then holds,
and that no other is touched, rests on entries 9, 11 and 28. -/
def Obligations.FailedStoreFaults : Prop :=
  ∀ (s : State) (a v : Word), s.cfg.transport = .direct → a.toNat < 256 → s.blockWriteReply.answer = .failed →
    ∃ t, exec (.wrh a v) s = .next t ∧
      Delivers s t [storeOf s.cfg (lo a) v, .answer .failed] (.fault .busFault) ∧
      ∀ k : Fin Catalog.nHold, a = holdAddr k → t.device = sent k v s.blockWriteReply.move s.device

/-- On DIRECT no operation ever delivers Status(FAIL): none that ends in its own step, and none in a lawful run (R113,
R130, R233; C2, D13; entry 18). -/
def Obligations.DirectNeverReportsFail : Prop :=
  (∀ (i : Instr) (s t : State) (r : Result), s.cfg.transport = .direct → exec i s = .next t →
    outcomes t.record = outcomes s.record ++ [r] → r ≠ .status .fail) ∧
    ∀ s : State, Lawful s → s.cfg.transport = .direct → .status .fail ∉ outcomes s.record

/-- R166, R167: on SERIAL a short reply and an error both end a read with Value(0), for every address. That the read
leaves holding bank and selector rests on entry 9. -/
def Obligations.SerialReadFallsBackToZero : Prop :=
  ∀ (s : State) (a x : Word) (ans : WireAnswer), s.cfg.transport = .serial →
    (s.rtuReadReply.answer = .failed ∧ ans = .failed ∨
      ∃ l : List Byte, s.rtuReadReply.answer = .returned (.bytes l) ∧ l.length < 3 ∧ ans = .bytes l) →
      (∃ t, exec (.rdi a x) s = .next t ∧ SerialReadEnds s t (.rtuReadInput s.cfg.devAddr a 1) ans 0) ∧
        ∃ t, exec (.rdh a x) s = .next t ∧ SerialReadEnds s t (.rtuReadHolding s.cfg.devAddr a 1) ans 0

/-- A serial read never faults: it waits, or it ends in a value (R162). -/
def Obligations.SerialReadNeverFaults : Prop :=
  ∀ (s : State) (a x : Word), s.cfg.transport = .serial →
    ∀ i ∈ [Instr.rdi a x, Instr.rdh a x], ∃ t, exec i s = .next t ∧
      (t.phase = .srXfer ∧ outcomes t.record = outcomes s.record ∨
        t.phase = .idle ∧ ∃ v, outcomes t.record = outcomes s.record ++ [.value v])

/-- A serial write that raises ends with LINK_FAULT (R174, R234; D14; entry 18). What the register then holds, and that no
other is touched, rests on entries 9, 11 and 28. -/
def Obligations.RaisingSerialWriteFaults : Prop :=
  ∀ (s : State) (a v : Word), s.cfg.transport = .serial → s.rtuWriteReply.answer = .failed →
    ∃ t, exec (.wrh a v) s = .next t ∧
      Delivers s t [writeOf s.cfg a v, .answer .failed] (.fault .linkFault) ∧
      ∀ k : Fin Catalog.nHold, a = holdAddr k → t.device = sent k v s.rtuWriteReply.move s.device

/-- An operation whose wire primitive has not returned waits in that primitive's phase, its event on the trace, its
operands latched, with no outcome: the select or the block read of RDI and RDH, the block write of WRH, either block write
of CONFIG_UART, and on SERIAL the request of each of them (R250, R39, U3; the traces are R130, R131, R161 to R164, R204).
That the step goes on waiting is the model's choice (entry 5); the select's `cmd` byte is D7 and the wrap D6 (entries 14,
15); that a completed first block write counts as OK is D13 (entry 18); that CONFIG_UART's second write is issued whatever
the first's status, FAIL included, is D24, and that CONFIG_UART runs on DIRECT is D25 (entry 19). -/
def Obligations.UnreturnedPrimitiveKeepsPhase : Prop :=
  ∀ (s : State) (a v x b : Word) (p q : Byte),
    (s.cfg.transport = .direct → s.blockWriteReply.answer = .pending →
      (∃ t, exec (.rdi a x) s = .next t ∧ Waits s t .dbSelect .single [selectOf s.cfg (plusSix a)] ∧
        t.latch.eff = plusSix a) ∧
      (∃ t, exec (.rdh a x) s = .next t ∧ Waits s t .dbSelect .single [selectOf s.cfg a] ∧ t.latch.eff = a) ∧
      (a.toNat < 256 → ∃ t, exec (.wrh a v) s = .next t ∧ Waits s t .dbStore .single [storeOf s.cfg (lo a) v] ∧
        t.latch.eff = a ∧ t.latch.wdata = v) ∧
      ∃ t, exec (.configUart b p q) s = .next t ∧
        Waits s t .dbStore (.uartFirst (valueOf p q)) [storeOf s.cfg 0x01 b] ∧ t.latch.eff = 1 ∧ t.latch.wdata = b) ∧
    (s.cfg.transport = .direct → s.blockWriteReply.answer = .returned () → s.blockReadReply.answer = .pending →
      (∃ t, exec (.rdi a x) s = .next t ∧
        Waits s t .dbFetch .single (selectOf s.cfg (plusSix a) :: settleAndFetch s.cfg)) ∧
      ∃ t, exec (.rdh a x) s = .next t ∧ Waits s t .dbFetch .single (selectOf s.cfg a :: settleAndFetch s.cfg)) ∧
    (s.cfg.transport = .direct → s.blockWriteReply.answer = .returned () → (secondBlockWrite s).answer = .pending →
      ∃ t, exec (.configUart b p q) s = .next t ∧
        Waits s t .dbStore (.uartSecond .ok)
          [storeOf s.cfg 0x01 b, .answer .done, storeOf s.cfg 0x02 (valueOf p q)] ∧
        t.latch.eff = 2 ∧ t.latch.wdata = valueOf p q) ∧
    (s.cfg.transport = .serial → s.rtuReadReply.answer = .pending →
      (∃ t, exec (.rdi a x) s = .next t ∧
        Waits s t .srXfer .single [.wire (.rtuReadInput s.cfg.devAddr a 1)] ∧ t.latch.op = .rdi ∧ t.latch.eff = a) ∧
      ∃ t, exec (.rdh a x) s = .next t ∧
        Waits s t .srXfer .single [.wire (.rtuReadHolding s.cfg.devAddr a 1)] ∧ t.latch.op = .rdh ∧ t.latch.eff = a) ∧
    (s.cfg.transport = .serial → s.rtuWriteReply.answer = .pending →
      (∃ t, exec (.wrh a v) s = .next t ∧ Waits s t .srXfer .single [writeOf s.cfg a v] ∧ t.latch.op = .wrh ∧
        t.latch.eff = a ∧ t.latch.wdata = v) ∧
      ∃ t, exec (.configUart b p q) s = .next t ∧
        Waits s t .srXfer (.uartFirst (valueOf p q)) [writeOf s.cfg 0x0001 b] ∧ t.latch.op = .wrh ∧
        t.latch.eff = 1 ∧ t.latch.wdata = b) ∧
    ∀ st, s.cfg.transport = .serial → s.rtuWriteReply.answer = .returned st → (secondRtuWrite s).answer = .pending →
      ∃ t, exec (.configUart b p q) s = .next t ∧
        Waits s t .srXfer (.uartSecond st)
          [writeOf s.cfg 0x0001 b, .answer (.status st), writeOf s.cfg 0x0002 (valueOf p q)] ∧
        t.latch.op = .wrh ∧ t.latch.eff = 2 ∧ t.latch.wdata = valueOf p q

/-- An operation whose primitive has still not returned goes on waiting, in its phase, at its place in CONFIG_UART, and
puts nothing on the trace; and whatever step leaves an operation in its phase and place puts nothing there: no wire event
is issued twice (R117, R250; entry 5). -/
def Obligations.WaitingRepeatsNothing : Prop :=
  (∀ s : State, StillUnanswered s → ∃ t, step s = .next t ∧ Waits s t s.phase s.sequence []) ∧
    ∀ s t : State, s.phase ≠ .idle → step s = .next t → t.phase = s.phase → t.sequence = s.sequence →
      t.record = s.record

/-- A block write that waited in DB_STORE returns or fails, and the operation goes on to its end: a lone store delivers its
outcome; CONFIG_UART's first store is followed by its second, which ends it, fails, or waits in its turn; its second store
delivers the combined status (R130, R204, R239, R250; D11, D13, D24, D25; entries 5, 18, 19). What the registers then hold,
and that no other is touched, rests on entries 4, 9, 11 and 28. -/
def Obligations.WaitingStoreGoesOn : Prop :=
  ∀ s : State, s.phase = .dbStore →
    (s.sequence = .single → s.blockWriteReply.answer = .returned () →
      ∃ t, step s = .next t ∧ Delivers s t [.answer .done] (.status .ok) ∧
        LatchedWriteLands s t s.blockWriteReply.move) ∧
    (s.blockWriteReply.answer = .failed →
      ∃ t, step s = .next t ∧ Delivers s t [.answer .failed] (.fault .busFault) ∧
        LatchedWriteLands s t s.blockWriteReply.move) ∧
    (∀ w, s.sequence = .uartFirst w → s.cfg.transport = .direct → s.blockWriteReply.answer = .returned () →
      ((secondBlockWrite s).answer = .returned () →
        ∃ t, step s = .next t ∧
          Delivers s t [.answer .done, storeOf s.cfg 0x02 w, .answer .done] (.status .ok) ∧
          BothWritesLand s t s.blockWriteReply.move w (secondBlockWrite s).move) ∧
      ((secondBlockWrite s).answer = .failed →
        ∃ t, step s = .next t ∧
          Delivers s t [.answer .done, storeOf s.cfg 0x02 w, .answer .failed] (.fault .busFault) ∧
          BothWritesLand s t s.blockWriteReply.move w (secondBlockWrite s).move) ∧
      ((secondBlockWrite s).answer = .pending →
        ∃ t, step s = .next t ∧ Waits s t .dbStore (.uartSecond .ok) [.answer .done, storeOf s.cfg 0x02 w] ∧
          t.latch.eff = 2 ∧ t.latch.wdata = w)) ∧
    ∀ first, s.sequence = .uartSecond first → s.blockWriteReply.answer = .returned () →
      ∃ t, step s = .next t ∧ Delivers s t [.answer .done] (.status (both first .ok)) ∧
        LatchedWriteLands s t s.blockWriteReply.move

/-- A direct-bus read that waited goes on to its end, from the select (DB_SELECT) or from the block read (DB_FETCH): the
remaining delays, the block read, the value or BUS_FAULT; and so does one in DB_SETTLE or DB_POST (R131, R239, R240, R250;
D10, D11; entries 5, 18). What the device's registers and selector hold afterwards rests on entries 4, 9 and 11. -/
def Obligations.WaitingDirectReadGoesOn : Prop :=
  ∀ (s : State) (b0 b1 : Byte) (ans : WireAnswer), s.sequence = .single →
    (s.phase = .dbSelect →
      (s.blockWriteReply.answer = .failed →
        ∃ t, step s = .next t ∧ Delivers s t [.answer .failed] (.fault .busFault) ∧
          t.device.holding = s.device.holding) ∧
      (s.blockWriteReply.answer = .returned () → s.blockReadReply.answer = .returned (.bytes [b0, b1]) →
        ∃ t, step s = .next t ∧
          Delivers s t (settleAndFetch s.cfg ++ bytesAndPost s.cfg b0 b1) (.value (valueOf b0 b1)) ∧
          t.device = moved (secondDrift s)
            (moved s.blockReadReply.move.toDrift (pointed s.latch.eff s.blockWriteReply.move (ranOn s)))) ∧
      (s.blockWriteReply.answer = .returned () → FetchFails s ans →
        ∃ t, step s = .next t ∧ Delivers s t (settleAndFetch s.cfg ++ [.answer ans]) (.fault .busFault) ∧
          t.device = moved s.blockReadReply.move.toDrift (pointed s.latch.eff s.blockWriteReply.move (ranOn s))) ∧
      (s.blockWriteReply.answer = .returned () → s.blockReadReply.answer = .pending →
        ∃ t, step s = .next t ∧ Waits s t .dbFetch .single (settleAndFetch s.cfg))) ∧
    (s.phase = .dbSettle → s.blockReadReply.answer = .returned (.bytes [b0, b1]) →
      ∃ t, step s = .next t ∧
        Delivers s t (.wire (.delay s.cfg.settleMs) :: .wire (.blockRead s.cfg.devAddr 2) :: bytesAndPost s.cfg b0 b1)
          (.value (valueOf b0 b1))) ∧
    (s.phase = .dbFetch →
      (s.blockReadReply.answer = .returned (.bytes [b0, b1]) →
        ∃ t, step s = .next t ∧ Delivers s t (bytesAndPost s.cfg b0 b1) (.value (valueOf b0 b1)) ∧
          t.device = moved (secondDrift s) (moved s.blockReadReply.move.toDrift (ranOn s))) ∧
      (FetchFails s ans →
        ∃ t, step s = .next t ∧ Delivers s t [.answer ans] (.fault .busFault) ∧
          t.device = moved s.blockReadReply.move.toDrift (ranOn s))) ∧
    (s.phase = .dbPost → s.latch.rbuf = [b0, b1] →
      ∃ t, step s = .next t ∧ Delivers s t [.wire (.delay s.cfg.postMs)] (.value (valueOf b0 b1)) ∧
        t.device = moved (secondDrift s) (ranOn s))

/-- A serial read that waited in SR_XFER goes on to its end when the collaborator answers: the decoded value, or 0 on an
error (R162, R165, R167, R250; entry 5). That it leaves holding bank and selector rests on entries 4 and 9. -/
def Obligations.WaitingSerialReadGoesOn : Prop :=
  ∀ (s : State) (ans : WireAnswer) (v : Word), s.phase = .srXfer → s.sequence = .single →
    (s.latch.op = .rdi ∨ s.latch.op = .rdh) → SerialReadAnswer s ans v →
      ∃ t, step s = .next t ∧ Delivers s t [.answer ans] (.value v) ∧
        t.device = moved s.rtuReadReply.move.toDrift (ranOn s)

/-- A serial write that waited in SR_XFER goes on to its end: a lone write delivers its status, or LINK_FAULT; CONFIG_UART's
first write is followed by its second whatever its status, which ends it, fails, or waits in its turn; its second write
delivers the combined status (R161, R174, R204, R239, R250; D11, D14, D24; entries 5, 18, 19). What the registers then hold,
and that no other is touched, rests on entries 4, 9, 11 and 28. -/
def Obligations.WaitingSerialWriteGoesOn : Prop :=
  ∀ s : State, s.phase = .srXfer → s.latch.op = .wrh →
    (∀ st, s.sequence = .single → s.rtuWriteReply.answer = .returned st →
      ∃ t, step s = .next t ∧ Delivers s t [.answer (.status st)] (.status st) ∧
        LatchedWriteLands s t s.rtuWriteReply.move) ∧
    (s.rtuWriteReply.answer = .failed →
      ∃ t, step s = .next t ∧ Delivers s t [.answer .failed] (.fault .linkFault) ∧
        LatchedWriteLands s t s.rtuWriteReply.move) ∧
    (∀ w st1, s.sequence = .uartFirst w → s.cfg.transport = .serial → s.rtuWriteReply.answer = .returned st1 →
      (∀ st2, (secondRtuWrite s).answer = .returned st2 →
        ∃ t, step s = .next t ∧
          Delivers s t [.answer (.status st1), writeOf s.cfg 0x0002 w, .answer (.status st2)]
            (.status (both st1 st2)) ∧
          BothWritesLand s t s.rtuWriteReply.move w (secondRtuWrite s).move) ∧
      ((secondRtuWrite s).answer = .failed →
        ∃ t, step s = .next t ∧
          Delivers s t [.answer (.status st1), writeOf s.cfg 0x0002 w, .answer .failed] (.fault .linkFault) ∧
          BothWritesLand s t s.rtuWriteReply.move w (secondRtuWrite s).move) ∧
      ((secondRtuWrite s).answer = .pending →
        ∃ t, step s = .next t ∧
          Waits s t .srXfer (.uartSecond st1) [.answer (.status st1), writeOf s.cfg 0x0002 w] ∧
          t.latch.op = .wrh ∧ t.latch.eff = 2 ∧ t.latch.wdata = w)) ∧
    ∀ first st, s.sequence = .uartSecond first → s.rtuWriteReply.answer = .returned st →
      ∃ t, step s = .next t ∧ Delivers s t [.answer (.status st)] (.status (both first st)) ∧
        LatchedWriteLands s t s.rtuWriteReply.move

/- ### Frames and whole-machine rules -/

/-- No read changes a holding register (entries 9, 28); on SERIAL none changes the selector, on DIRECT a completed select
sets it to the effective address (entry 11), and where the device does not move on its own its input bank and settings
stay (R58, C6). Every read: RDI, RDH, the eight getters. -/
def Obligations.ReadsChangeOnlyTheSelector : Prop :=
  ∀ (i : Instr) (s t : State) (eff : Word),
    ((∃ a x, i = .rdi a x ∧ eff = plusSix a) ∨ (∃ a x, i = .rdh a x ∧ eff = a) ∨
      ∃ g ∈ getters, ∃ x, i = g.1 x ∧ eff = plusSix g.2) →
    exec i s = .next t →
      t.device.holding = s.device.holding ∧ (s.cfg.transport = .serial → t.device.selector = s.device.selector) ∧
      (s.cfg.transport = .direct → s.blockWriteReply.answer = .returned () → t.device.selector = eff) ∧
      (s.blockWriteReply.move.input = none → s.blockReadReply.move.input = none → s.rtuReadReply.move.input = none →
        s.nextDrift.input = none → t.device.input = s.device.input) ∧
      (s.blockWriteReply.move.live = none → s.blockReadReply.move.live = none → s.rtuReadReply.move.live = none →
        s.nextDrift.live = none → t.device.live = s.device.live)

/-- A write to a catalogued holding register sends it the value and touches no other holding register, nor the
selector, whatever comes back (R113, R130, R161; entries 9, 11, 28): WRH, and the four setters by FacadeIsItsExpansion.
-/
def Obligations.WriteTouchesOneRegister : Prop :=
  ∀ (s t : State) (k : Fin Catalog.nHold) (v : Word), exec (.wrh (holdAddr k) v) s = .next t →
    t.device = sent k v (if s.cfg.transport = .direct then s.blockWriteReply.move else s.rtuWriteReply.move) s.device

/-- CONFIG_UART touches no holding register but H1 and H2, whatever comes back, and leaves the selector (R204; entries 9,
11, 28). -/
def Obligations.ConfigUartTouchesTwoRegisters : Prop :=
  ∀ (s t : State) (b : Word) (p q : Byte), exec (.configUart b p q) s = .next t →
    t.device.selector = s.device.selector ∧
      ∀ k : Fin Catalog.nHold, k ≠ 1 → k ≠ 2 → t.device.holding[k.val] = s.device.holding[k.val]

/-- Every operation answers a next state, but the direct-bus WRH above 0x00FF (U6, D8; entry 16). -/
def Obligations.OnlyWideStoresStop : Prop :=
  ∀ (i : Instr) (s : State),
    (∃ t, exec i s = .next t) ∨
      ∃ a v, i = .wrh a v ∧ s.cfg.transport = .direct ∧ 256 ≤ a.toNat ∧ exec i s = .refused (.storeAddressTooWide a)

/-- No operation writes the configuration, the link or what the requester asks (R26, R27, R118, R244, R273): in
particular not SET_ADDR and not CONFIG_UART. -/
def Obligations.NoOperationWritesConfiguration : Prop :=
  ∀ (i : Instr) (s t : State), exec i s = .next t → t.cfg = s.cfg ∧ t.link = s.link ∧ t.inbox = s.inbox

/-- After SET_ADDR the configuration is unchanged and the first wire event of a following GET_PID still carries the old
address (R203, R278); the `cmd` byte of its select is D7 (entry 14). -/
def Obligations.SetAddrKeepsLocalIdentity : Prop :=
  ∀ (s t u : State) (v x : Word), exec (.setAddr v) s = .next t → exec (.getPid x) t = .next u →
    u.cfg.devAddr = s.cfg.devAddr ∧ ∃ e l, wireEvents u.record = wireEvents t.record ++ e :: l ∧
      e = (if s.cfg.transport = .direct then .blockWrite s.cfg.devAddr 0 [6] else .rtuReadInput s.cfg.devAddr 0 1)

/-- R137, R173: every wire event carries the instance's own device address, which no operation changes, SET_ADDR
included; it is of the instance's own transport (R116), and every serial read asks for one register (R170). Of an
operation that waited and went on, the second clause speaks: every event on the trace of a lawful run. -/
def Obligations.EventsAreOwnTransportAndDevice : Prop :=
  (∀ (i : Instr) (s t : State), exec i s = .next t →
    t.cfg = s.cfg ∧ ∃ l, wireEvents t.record = wireEvents s.record ++ l ∧ ∀ e ∈ l, ownEvent s.cfg e) ∧
    ∀ s : State, Lawful s → ∀ e ∈ wireEvents s.record, ownEvent s.cfg e

/-- R141: a write puts exactly one event on the wire and no delay, whatever comes back: on DIRECT the block write of the
value split high byte first (R51), on SERIAL the request with the value whole. -/
def Obligations.WritePutsOneEventOnTheWire : Prop :=
  ∀ (s t : State) (a v : Word), exec (.wrh a v) s = .next t →
    wireEvents t.record = wireEvents s.record ++
      [if s.cfg.transport = .direct then .blockWrite s.cfg.devAddr (lo a) [hi v, lo v]
        else .rtuWriteHolding s.cfg.devAddr a v]

/-- R171: no operation of the serial transport performs a delay; nor, in a lawful run, one that waited and went on. -/
def Obligations.SerialOperationsHaveNoDelay : Prop :=
  (∀ (i : Instr) (s t : State), s.cfg.transport = .serial → exec i s = .next t →
    delayMs t.record = delayMs s.record) ∧
    ∀ s : State, Lawful s → s.cfg.transport = .serial → delayMs s.record = 0

/-- An operation on DIRECT that delivers a value in its own step has put both delays of its instance on the trace, 250 ms
or more where the instance was built with delays that are not too short, a minimum of the time it takes (R282, an
inference of the spec from R131; D21, entries 21, 27). -/
def Obligations.DirectReadTakesAtLeast250Ms : Prop :=
  ∀ (i : Instr) (s t : State) (v : Word), s.cfg.transport = .direct → exec i s = .next t →
    outcomes t.record = outcomes s.record ++ [.value v] →
      delayMs t.record = delayMs s.record + (s.cfg.settleMs + s.cfg.postMs) ∧
        (150 ≤ s.cfg.settleMs → 100 ≤ s.cfg.postMs → delayMs s.record + 250 ≤ delayMs t.record)

/-- Every operation that answers delivers exactly one outcome and is then over, the response port showing it, or is still
in progress and has delivered none (R11, R240, R242, R284; the record and the port are entry 13). -/
def Obligations.OneOutcomePerOperation : Prop :=
  ∀ (i : Instr) (s t : State), exec i s = .next t →
    (t.phase = .idle ∧ t.sequence = .single ∧
      ∃ r, outcomes t.record = outcomes s.record ++ [r] ∧ t.response = some r.toWord) ∨
    (t.phase ≠ .idle ∧ outcomes t.record = outcomes s.record ∧ t.response = s.response)

/-- On DIRECT RDI at `a` and RDH at `a + 6` cannot be told apart by anything outside the block's latches (R140, an
inference of the spec; the wrap is D6, entry 15). -/
def Obligations.DirectReadsAliasAcrossTheOffset : Prop :=
  ∀ (s t : State) (a x y : Word), s.cfg.transport = .direct → exec (.rdi a x) s = .next t →
    ∃ u, exec (.rdh (plusSix a) y) s = .next u ∧ u = { t with latch := u.latch }

/-- The ignored field of a read and both fields of the reserved code have no effect (R91, R92; D4, D5; entry 18). -/
def Obligations.IgnoredFieldsHaveNoEffect : Prop :=
  ∀ (s : State) (a b x y : Word), exec (.rdi a x) s = exec (.rdi a y) s ∧ exec (.rdh a x) s = exec (.rdh a y) s ∧
    exec (.reserved a x) s = exec (.reserved b y) s ∧ ∀ g ∈ getters, exec (g.1 x) s = exec (g.1 y) s

/-- No operation reads the latches it finds: whatever they hold, it does the same but for its own latches (R39; D1,
entry 6). -/
def Obligations.IdleLatchesAreNeverRead : Prop :=
  ∀ (i : Instr) (s t : State) (l : Latch), exec i s = .next t →
    ∃ u, exec i { s with latch := l } = .next u ∧ u = { t with latch := u.latch }

/-- On either transport RDI at a catalogued address brings the content of that input register of the device at the moment
it is fetched, where the device answers from its registers (R23, R61, R111; entries 9, 10, 11). -/
def Obligations.RdiReachesItsInputRegister : Prop :=
  ∀ (s : State) (k : Fin Catalog.nInput) (x : Word),
    (s.cfg.transport = .direct → s.blockWriteReply.answer = .returned () → s.blockReadReply.answer = .returned .contents →
      ∃ t, exec (.rdi (BitVec.ofNat 16 k.val) x) s = .next t ∧
        outcomes t.record = outcomes s.record ++
          [.value (moved s.blockReadReply.move.toDrift (moved s.blockWriteReply.move.toDrift s.device)).input[k.val]]) ∧
    (s.cfg.transport = .serial → s.rtuReadReply.answer = .returned .contents →
      ∃ t, exec (.rdi (BitVec.ofNat 16 k.val) x) s = .next t ∧
        outcomes t.record = outcomes s.record ++ [.value (moved s.rtuReadReply.move.toDrift s.device).input[k.val]])

/-- The read-back property, where the device keeps the value and answers from its registers (R67; entries 9, 10, 11, 28):
a value written to a holding register and read back with nothing between is that value, on either transport. -/
def Obligations.WrittenValueReadsBack : Prop :=
  ∀ (s t : State) (k : Fin Catalog.nHold) (v x : Word), exec (.wrh (holdAddr k) v) s = .next t →
    (s.cfg.transport = .direct → s.blockWriteReply.answer = .returned () → s.blockWriteReply.move.uptake = .taken →
      (secondBlockWrite s).answer = .returned () → s.blockReadReply.answer = .returned .contents →
      ∃ u, exec (.rdh (holdAddr k) x) t = .next u ∧ outcomes u.record = outcomes t.record ++ [.value v]) ∧
    (s.cfg.transport = .serial → s.rtuWriteReply.answer = .returned .ok → s.rtuWriteReply.move.uptake = .taken →
      s.rtuReadReply.answer = .returned .contents →
      ∃ u, exec (.rdh (holdAddr k) x) t = .next u ∧ outcomes u.record = outcomes t.record ++ [.value v])

/- ### Invariants -/

/-- Every step keeps the run lawful: the trace follows the grammar of the operations (order R64, R131, R130, R161,
R162, R204; transport and device R116, R137, R173) and has come exactly as far as PHASE and the latches say. The
grammar includes the spec's decisions D10 to D14 and D24 (entries 18, 19) and the model's record (entry 13); that the
delays of the instance stay at or above the documented ones is R136 with U12 (entry 27). -/
def Obligations.EveryStepKeepsRunLawful : Prop :=
  ∀ s t : State, Lawful s → step s = .next t → Lawful t

/-- A fresh instance is lawful, whatever its configuration, if its delays are not too short (U12; entry 27), and so is the
state after reset. -/
def Obligations.FreshInstanceIsLawful : Prop :=
  (∀ (c : Cfg) (p : SerialParams), 150 ≤ c.settleMs → 100 ≤ c.postMs → Lawful (State.new c p)) ∧ Lawful State.reset

/-- In a lawful run no block read goes out without its own completed select write and settle delay directly before it
(R142, an inference of the spec from R131; R134, R276). -/
def Obligations.FetchFollowsSelectAndSettle : Prop :=
  ∀ (s : State) (pre post : List Entry) (d : Byte) (n : Nat), Lawful s →
    s.record = pre ++ .wire (.blockRead d n) :: post →
      d = s.cfg.devAddr ∧ n = 2 ∧ 150 ≤ s.cfg.settleMs ∧ ∃ pre' cmd al,
        pre = pre' ++ [.wire (.blockWrite s.cfg.devAddr cmd [al]), .answer .done, .wire (.delay s.cfg.settleMs)]

/-- From any state, steps change configuration and link only by a construction the requester asked for (R26, R27,
R273). -/
def Obligations.OnlyConstructionChangesConfiguration : Prop :=
  ∀ s t : State, step s = .next t →
    (t.cfg = s.cfg ∧ t.link = s.link) ∨
      (s.phase = .idle ∧ ∃ c p o rest, s.inbox = .construct c p o :: rest ∧ t.cfg = c ∧
        t.link = { isOpen := o, params := p })
end

