-- ==== Sys2Proof/Laws/Operands.lean ====
section
/-! SUPPORT. The operand forms and the response word in arithmetic: what each computes, said once. -/

namespace Sys2Proof.Machine

theorem highByte_toNat (v : Word) : (highByte v).toNat = v.toNat / 256 := by
  have := v.isLt
  simp [highByte, BitVec.extractLsb'_toNat, Nat.shiftRight_eq_div_pow]
  omega

theorem lowByte_toNat (v : Word) : (lowByte v).toNat = v.toNat % 256 := by
  simp [lowByte, BitVec.extractLsb'_toNat]

/-- The shift and or of R52 put the first byte above the second. -/
theorem combine_eq_append (b0 b1 : Byte) : combine b0 b1 = (b0 ++ b1 : BitVec 16) := by
  apply BitVec.eq_of_getLsbD_eq
  intro i hi
  rw [BitVec.getLsbD_append]
  rcases Nat.lt_or_ge i 8 with h | h
  · simp [combine, hi, h]
  · simp [combine, hi, Nat.not_lt.mpr h, BitVec.getLsbD_of_ge b1 i h]

theorem combine_toNat (b0 b1 : Byte) : (combine b0 b1).toNat = b0.toNat * 256 + b1.toNat := by
  have := b1.isLt
  rw [combine_eq_append, BitVec.toNat_append, ← Nat.shiftLeft_add_eq_or_of_lt this, Nat.shiftLeft_eq]

/-- The packed serial parameters are combined exactly as two received bytes are (R89, R52). -/
theorem packUart_eq_combine (p q : Byte) : packUart p q = combine p q := rfl

theorem inputEff_toNat (a : Word) : (inputEff a).toNat = (a.toNat + 6) % 65536 := by
  simp [inputEff, Catalog.inputOffset, BitVec.toNat_add]

theorem storable_iff (a : Word) : storable a = true ↔ a.toNat < 256 := by
  have := a.isLt
  rw [storable, decide_eq_true_iff, ← BitVec.toNat_inj, highByte_toNat]
  simp

theorem decodeRsp_short {l : List Byte} (h : l.length < 3) : decodeRsp l = 0 := by
  simp [decodeRsp, Catalog.minRspLen, Catalog.rdDefault, h]

theorem decodeRsp_cons (h b0 b1 : Byte) (l : List Byte) : decodeRsp (h :: b0 :: b1 :: l) = combine b0 b1 := by
  simp [decodeRsp, Catalog.minRspLen, Catalog.rspHiIdx, Catalog.rspLoIdx]

@[simp] theorem split_length (v : Word) : (split v).length = 2 := rfl

end Sys2Proof.Machine
end

