-- ==== Sys2Proof/Laws/State.lean ====
section
/-! SUPPORT. One lemma per field per named update of the state, true by `rfl`, so that no later proof unfolds a record
update. -/

namespace Sys2Proof.Machine

@[simp] theorem drewBlockWrite_cfg (s : State) : s.drewBlockWrite.cfg = s.cfg := rfl
@[simp] theorem drewBlockWrite_phase (s : State) : s.drewBlockWrite.phase = s.phase := rfl
@[simp] theorem drewBlockWrite_latch (s : State) : s.drewBlockWrite.latch = s.latch := rfl
@[simp] theorem drewBlockWrite_sequence (s : State) : s.drewBlockWrite.sequence = s.sequence := rfl
@[simp] theorem drewBlockWrite_link (s : State) : s.drewBlockWrite.link = s.link := rfl
@[simp] theorem drewBlockWrite_device (s : State) : s.drewBlockWrite.device = s.device := rfl
@[simp] theorem drewBlockWrite_inbox (s : State) : s.drewBlockWrite.inbox = s.inbox := rfl
@[simp] theorem drewBlockWrite_response (s : State) : s.drewBlockWrite.response = s.response := rfl
@[simp] theorem drewBlockWrite_record (s : State) : s.drewBlockWrite.record = s.record := rfl
@[simp] theorem drewBlockWrite_env (s : State) : s.drewBlockWrite.env = { s.env with blockWrites := s.env.blockWrites.tail } := rfl

@[simp] theorem drewBlockRead_cfg (s : State) : s.drewBlockRead.cfg = s.cfg := rfl
@[simp] theorem drewBlockRead_phase (s : State) : s.drewBlockRead.phase = s.phase := rfl
@[simp] theorem drewBlockRead_latch (s : State) : s.drewBlockRead.latch = s.latch := rfl
@[simp] theorem drewBlockRead_sequence (s : State) : s.drewBlockRead.sequence = s.sequence := rfl
@[simp] theorem drewBlockRead_link (s : State) : s.drewBlockRead.link = s.link := rfl
@[simp] theorem drewBlockRead_device (s : State) : s.drewBlockRead.device = s.device := rfl
@[simp] theorem drewBlockRead_inbox (s : State) : s.drewBlockRead.inbox = s.inbox := rfl
@[simp] theorem drewBlockRead_response (s : State) : s.drewBlockRead.response = s.response := rfl
@[simp] theorem drewBlockRead_record (s : State) : s.drewBlockRead.record = s.record := rfl
@[simp] theorem drewBlockRead_env (s : State) : s.drewBlockRead.env = { s.env with blockReads := s.env.blockReads.tail } := rfl

@[simp] theorem drewRtuWrite_cfg (s : State) : s.drewRtuWrite.cfg = s.cfg := rfl
@[simp] theorem drewRtuWrite_phase (s : State) : s.drewRtuWrite.phase = s.phase := rfl
@[simp] theorem drewRtuWrite_latch (s : State) : s.drewRtuWrite.latch = s.latch := rfl
@[simp] theorem drewRtuWrite_sequence (s : State) : s.drewRtuWrite.sequence = s.sequence := rfl
@[simp] theorem drewRtuWrite_link (s : State) : s.drewRtuWrite.link = s.link := rfl
@[simp] theorem drewRtuWrite_device (s : State) : s.drewRtuWrite.device = s.device := rfl
@[simp] theorem drewRtuWrite_inbox (s : State) : s.drewRtuWrite.inbox = s.inbox := rfl
@[simp] theorem drewRtuWrite_response (s : State) : s.drewRtuWrite.response = s.response := rfl
@[simp] theorem drewRtuWrite_record (s : State) : s.drewRtuWrite.record = s.record := rfl
@[simp] theorem drewRtuWrite_env (s : State) : s.drewRtuWrite.env = { s.env with rtuWrites := s.env.rtuWrites.tail } := rfl

@[simp] theorem drewRtuRead_cfg (s : State) : s.drewRtuRead.cfg = s.cfg := rfl
@[simp] theorem drewRtuRead_phase (s : State) : s.drewRtuRead.phase = s.phase := rfl
@[simp] theorem drewRtuRead_latch (s : State) : s.drewRtuRead.latch = s.latch := rfl
@[simp] theorem drewRtuRead_sequence (s : State) : s.drewRtuRead.sequence = s.sequence := rfl
@[simp] theorem drewRtuRead_link (s : State) : s.drewRtuRead.link = s.link := rfl
@[simp] theorem drewRtuRead_device (s : State) : s.drewRtuRead.device = s.device := rfl
@[simp] theorem drewRtuRead_inbox (s : State) : s.drewRtuRead.inbox = s.inbox := rfl
@[simp] theorem drewRtuRead_response (s : State) : s.drewRtuRead.response = s.response := rfl
@[simp] theorem drewRtuRead_record (s : State) : s.drewRtuRead.record = s.record := rfl
@[simp] theorem drewRtuRead_env (s : State) : s.drewRtuRead.env = { s.env with rtuReads := s.env.rtuReads.tail } := rfl

@[simp] theorem enter_cfg (p : Phase) (s : State) : (s.enter p).cfg = s.cfg := rfl
@[simp] theorem enter_phase (p : Phase) (s : State) : (s.enter p).phase = p := rfl
@[simp] theorem enter_latch (p : Phase) (s : State) : (s.enter p).latch = s.latch := rfl
@[simp] theorem enter_sequence (p : Phase) (s : State) : (s.enter p).sequence = s.sequence := rfl
@[simp] theorem enter_link (p : Phase) (s : State) : (s.enter p).link = s.link := rfl
@[simp] theorem enter_device (p : Phase) (s : State) : (s.enter p).device = s.device := rfl
@[simp] theorem enter_inbox (p : Phase) (s : State) : (s.enter p).inbox = s.inbox := rfl
@[simp] theorem enter_response (p : Phase) (s : State) : (s.enter p).response = s.response := rfl
@[simp] theorem enter_record (p : Phase) (s : State) : (s.enter p).record = s.record := rfl
@[simp] theorem enter_env (p : Phase) (s : State) : (s.enter p).env = s.env := rfl

@[simp] theorem latched_cfg (op : Primitive) (a e : Word) (s : State) : (s.latched op a e).cfg = s.cfg := rfl
@[simp] theorem latched_phase (op : Primitive) (a e : Word) (s : State) : (s.latched op a e).phase = s.phase := rfl
@[simp] theorem latched_latch (op : Primitive) (a e : Word) (s : State) : (s.latched op a e).latch = { s.latch with op := op, addr := a, eff := e } := rfl
@[simp] theorem latched_sequence (op : Primitive) (a e : Word) (s : State) : (s.latched op a e).sequence = s.sequence := rfl
@[simp] theorem latched_link (op : Primitive) (a e : Word) (s : State) : (s.latched op a e).link = s.link := rfl
@[simp] theorem latched_device (op : Primitive) (a e : Word) (s : State) : (s.latched op a e).device = s.device := rfl
@[simp] theorem latched_inbox (op : Primitive) (a e : Word) (s : State) : (s.latched op a e).inbox = s.inbox := rfl
@[simp] theorem latched_response (op : Primitive) (a e : Word) (s : State) : (s.latched op a e).response = s.response := rfl
@[simp] theorem latched_record (op : Primitive) (a e : Word) (s : State) : (s.latched op a e).record = s.record := rfl
@[simp] theorem latched_env (op : Primitive) (a e : Word) (s : State) : (s.latched op a e).env = s.env := rfl

@[simp] theorem latchedData_cfg (v : Word) (s : State) : (s.latchedData v).cfg = s.cfg := rfl
@[simp] theorem latchedData_phase (v : Word) (s : State) : (s.latchedData v).phase = s.phase := rfl
@[simp] theorem latchedData_latch (v : Word) (s : State) : (s.latchedData v).latch = { s.latch with wdata := v } := rfl
@[simp] theorem latchedData_sequence (v : Word) (s : State) : (s.latchedData v).sequence = s.sequence := rfl
@[simp] theorem latchedData_link (v : Word) (s : State) : (s.latchedData v).link = s.link := rfl
@[simp] theorem latchedData_device (v : Word) (s : State) : (s.latchedData v).device = s.device := rfl
@[simp] theorem latchedData_inbox (v : Word) (s : State) : (s.latchedData v).inbox = s.inbox := rfl
@[simp] theorem latchedData_response (v : Word) (s : State) : (s.latchedData v).response = s.response := rfl
@[simp] theorem latchedData_record (v : Word) (s : State) : (s.latchedData v).record = s.record := rfl
@[simp] theorem latchedData_env (v : Word) (s : State) : (s.latchedData v).env = s.env := rfl

@[simp] theorem latchedBytes_cfg (l : List Byte) (s : State) : (s.latchedBytes l).cfg = s.cfg := rfl
@[simp] theorem latchedBytes_phase (l : List Byte) (s : State) : (s.latchedBytes l).phase = s.phase := rfl
@[simp] theorem latchedBytes_latch (l : List Byte) (s : State) : (s.latchedBytes l).latch = { s.latch with rbuf := l } := rfl
@[simp] theorem latchedBytes_sequence (l : List Byte) (s : State) : (s.latchedBytes l).sequence = s.sequence := rfl
@[simp] theorem latchedBytes_link (l : List Byte) (s : State) : (s.latchedBytes l).link = s.link := rfl
@[simp] theorem latchedBytes_device (l : List Byte) (s : State) : (s.latchedBytes l).device = s.device := rfl
@[simp] theorem latchedBytes_inbox (l : List Byte) (s : State) : (s.latchedBytes l).inbox = s.inbox := rfl
@[simp] theorem latchedBytes_response (l : List Byte) (s : State) : (s.latchedBytes l).response = s.response := rfl
@[simp] theorem latchedBytes_record (l : List Byte) (s : State) : (s.latchedBytes l).record = s.record := rfl
@[simp] theorem latchedBytes_env (l : List Byte) (s : State) : (s.latchedBytes l).env = s.env := rfl

@[simp] theorem withDevice_cfg (d : Device) (s : State) : (s.withDevice d).cfg = s.cfg := rfl
@[simp] theorem withDevice_phase (d : Device) (s : State) : (s.withDevice d).phase = s.phase := rfl
@[simp] theorem withDevice_latch (d : Device) (s : State) : (s.withDevice d).latch = s.latch := rfl
@[simp] theorem withDevice_sequence (d : Device) (s : State) : (s.withDevice d).sequence = s.sequence := rfl
@[simp] theorem withDevice_link (d : Device) (s : State) : (s.withDevice d).link = s.link := rfl
@[simp] theorem withDevice_device (d : Device) (s : State) : (s.withDevice d).device = d := rfl
@[simp] theorem withDevice_inbox (d : Device) (s : State) : (s.withDevice d).inbox = s.inbox := rfl
@[simp] theorem withDevice_response (d : Device) (s : State) : (s.withDevice d).response = s.response := rfl
@[simp] theorem withDevice_record (d : Device) (s : State) : (s.withDevice d).record = s.record := rfl
@[simp] theorem withDevice_env (d : Device) (s : State) : (s.withDevice d).env = s.env := rfl

@[simp] theorem deviceRuns_cfg (s : State) : s.deviceRuns.cfg = s.cfg := rfl
@[simp] theorem deviceRuns_phase (s : State) : s.deviceRuns.phase = s.phase := rfl
@[simp] theorem deviceRuns_latch (s : State) : s.deviceRuns.latch = s.latch := rfl
@[simp] theorem deviceRuns_sequence (s : State) : s.deviceRuns.sequence = s.sequence := rfl
@[simp] theorem deviceRuns_link (s : State) : s.deviceRuns.link = s.link := rfl
@[simp] theorem deviceRuns_device (s : State) : s.deviceRuns.device = deviceDrift s.nextDrift s.device := rfl
@[simp] theorem deviceRuns_inbox (s : State) : s.deviceRuns.inbox = s.inbox := rfl
@[simp] theorem deviceRuns_response (s : State) : s.deviceRuns.response = s.response := rfl
@[simp] theorem deviceRuns_record (s : State) : s.deviceRuns.record = s.record := rfl
@[simp] theorem deviceRuns_env (s : State) : s.deviceRuns.env = { s.env with drifts := s.env.drifts.tail } := rfl
@[simp] theorem deviceRuns_blockWriteReply (s : State) : s.deviceRuns.blockWriteReply = s.blockWriteReply := rfl
@[simp] theorem deviceRuns_blockReadReply (s : State) : s.deviceRuns.blockReadReply = s.blockReadReply := rfl
@[simp] theorem deviceRuns_rtuWriteReply (s : State) : s.deviceRuns.rtuWriteReply = s.rtuWriteReply := rfl
@[simp] theorem deviceRuns_rtuReadReply (s : State) : s.deviceRuns.rtuReadReply = s.rtuReadReply := rfl

@[simp] theorem issue_cfg (e : WireEvent) (s : State) : (s.issue e).cfg = s.cfg := rfl
@[simp] theorem issue_phase (e : WireEvent) (s : State) : (s.issue e).phase = s.phase := rfl
@[simp] theorem issue_latch (e : WireEvent) (s : State) : (s.issue e).latch = s.latch := rfl
@[simp] theorem issue_sequence (e : WireEvent) (s : State) : (s.issue e).sequence = s.sequence := rfl
@[simp] theorem issue_link (e : WireEvent) (s : State) : (s.issue e).link = s.link := rfl
@[simp] theorem issue_device (e : WireEvent) (s : State) : (s.issue e).device = s.device := rfl
@[simp] theorem issue_inbox (e : WireEvent) (s : State) : (s.issue e).inbox = s.inbox := rfl
@[simp] theorem issue_response (e : WireEvent) (s : State) : (s.issue e).response = s.response := rfl
@[simp] theorem issue_record (e : WireEvent) (s : State) : (s.issue e).record = s.record ++ [.wire e] := rfl
@[simp] theorem issue_env (e : WireEvent) (s : State) : (s.issue e).env = s.env := rfl

@[simp] theorem note_cfg (a : WireAnswer) (s : State) : (s.note a).cfg = s.cfg := rfl
@[simp] theorem note_phase (a : WireAnswer) (s : State) : (s.note a).phase = s.phase := rfl
@[simp] theorem note_latch (a : WireAnswer) (s : State) : (s.note a).latch = s.latch := rfl
@[simp] theorem note_sequence (a : WireAnswer) (s : State) : (s.note a).sequence = s.sequence := rfl
@[simp] theorem note_link (a : WireAnswer) (s : State) : (s.note a).link = s.link := rfl
@[simp] theorem note_device (a : WireAnswer) (s : State) : (s.note a).device = s.device := rfl
@[simp] theorem note_inbox (a : WireAnswer) (s : State) : (s.note a).inbox = s.inbox := rfl
@[simp] theorem note_response (a : WireAnswer) (s : State) : (s.note a).response = s.response := rfl
@[simp] theorem note_record (a : WireAnswer) (s : State) : (s.note a).record = s.record ++ [.answer a] := rfl
@[simp] theorem note_env (a : WireAnswer) (s : State) : (s.note a).env = s.env := rfl

@[simp] theorem withSequence_cfg (q : Sequence) (s : State) : (s.withSequence q).cfg = s.cfg := rfl
@[simp] theorem withSequence_phase (q : Sequence) (s : State) : (s.withSequence q).phase = s.phase := rfl
@[simp] theorem withSequence_latch (q : Sequence) (s : State) : (s.withSequence q).latch = s.latch := rfl
@[simp] theorem withSequence_sequence (q : Sequence) (s : State) : (s.withSequence q).sequence = q := rfl
@[simp] theorem withSequence_link (q : Sequence) (s : State) : (s.withSequence q).link = s.link := rfl
@[simp] theorem withSequence_device (q : Sequence) (s : State) : (s.withSequence q).device = s.device := rfl
@[simp] theorem withSequence_inbox (q : Sequence) (s : State) : (s.withSequence q).inbox = s.inbox := rfl
@[simp] theorem withSequence_response (q : Sequence) (s : State) : (s.withSequence q).response = s.response := rfl
@[simp] theorem withSequence_record (q : Sequence) (s : State) : (s.withSequence q).record = s.record := rfl
@[simp] theorem withSequence_env (q : Sequence) (s : State) : (s.withSequence q).env = s.env := rfl

@[simp] theorem toIdle_cfg (s : State) : s.toIdle.cfg = s.cfg := rfl
@[simp] theorem toIdle_phase (s : State) : s.toIdle.phase = .idle := rfl
@[simp] theorem toIdle_latch (s : State) : s.toIdle.latch = Config.idleLatch s.env.idles := rfl
@[simp] theorem toIdle_sequence (s : State) : s.toIdle.sequence = s.sequence := rfl
@[simp] theorem toIdle_link (s : State) : s.toIdle.link = s.link := rfl
@[simp] theorem toIdle_device (s : State) : s.toIdle.device = s.device := rfl
@[simp] theorem toIdle_inbox (s : State) : s.toIdle.inbox = s.inbox := rfl
@[simp] theorem toIdle_response (s : State) : s.toIdle.response = s.response := rfl
@[simp] theorem toIdle_record (s : State) : s.toIdle.record = s.record := rfl
@[simp] theorem toIdle_env (s : State) : s.toIdle.env = { s.env with idles := s.env.idles + 1 } := rfl

@[simp] theorem deliver_cfg (r : Result) (s : State) : (s.deliver r).cfg = s.cfg := rfl
@[simp] theorem deliver_phase (r : Result) (s : State) : (s.deliver r).phase = s.phase := rfl
@[simp] theorem deliver_latch (r : Result) (s : State) : (s.deliver r).latch = s.latch := rfl
@[simp] theorem deliver_sequence (r : Result) (s : State) : (s.deliver r).sequence = .single := rfl
@[simp] theorem deliver_link (r : Result) (s : State) : (s.deliver r).link = s.link := rfl
@[simp] theorem deliver_device (r : Result) (s : State) : (s.deliver r).device = s.device := rfl
@[simp] theorem deliver_inbox (r : Result) (s : State) : (s.deliver r).inbox = s.inbox := rfl
@[simp] theorem deliver_response (r : Result) (s : State) : (s.deliver r).response = some r.toWord := rfl
@[simp] theorem deliver_record (r : Result) (s : State) : (s.deliver r).record = s.record ++ [.outcome r] := rfl
@[simp] theorem deliver_env (r : Result) (s : State) : (s.deliver r).env = s.env := rfl

@[simp] theorem accept_cfg (rest : List Request) (s : State) : (s.accept rest).cfg = s.cfg := rfl
@[simp] theorem accept_phase (rest : List Request) (s : State) : (s.accept rest).phase = s.phase := rfl
@[simp] theorem accept_latch (rest : List Request) (s : State) : (s.accept rest).latch = s.latch := rfl
@[simp] theorem accept_sequence (rest : List Request) (s : State) : (s.accept rest).sequence = s.sequence := rfl
@[simp] theorem accept_link (rest : List Request) (s : State) : (s.accept rest).link = s.link := rfl
@[simp] theorem accept_device (rest : List Request) (s : State) : (s.accept rest).device = s.device := rfl
@[simp] theorem accept_inbox (rest : List Request) (s : State) : (s.accept rest).inbox = rest := rfl
@[simp] theorem accept_response (rest : List Request) (s : State) : (s.accept rest).response = none := rfl
@[simp] theorem accept_record (rest : List Request) (s : State) : (s.accept rest).record = s.record := rfl
@[simp] theorem accept_env (rest : List Request) (s : State) : (s.accept rest).env = s.env := rfl

@[simp] theorem construct_cfg (c : Cfg) (p : SerialParams) (o : Bool) (s : State) : (s.construct c p o).cfg = c := rfl
@[simp] theorem construct_phase (c : Cfg) (p : SerialParams) (o : Bool) (s : State) : (s.construct c p o).phase = .idle := rfl
@[simp] theorem construct_latch (c : Cfg) (p : SerialParams) (o : Bool) (s : State) : (s.construct c p o).latch = Config.idleLatch s.env.idles := rfl
@[simp] theorem construct_sequence (c : Cfg) (p : SerialParams) (o : Bool) (s : State) : (s.construct c p o).sequence = .single := rfl
@[simp] theorem construct_link (c : Cfg) (p : SerialParams) (o : Bool) (s : State) : (s.construct c p o).link = { isOpen := o, params := p } := rfl
@[simp] theorem construct_device (c : Cfg) (p : SerialParams) (o : Bool) (s : State) : (s.construct c p o).device = s.device := rfl
@[simp] theorem construct_inbox (c : Cfg) (p : SerialParams) (o : Bool) (s : State) : (s.construct c p o).inbox = s.inbox := rfl
@[simp] theorem construct_response (c : Cfg) (p : SerialParams) (o : Bool) (s : State) : (s.construct c p o).response = none := rfl
@[simp] theorem construct_record (c : Cfg) (p : SerialParams) (o : Bool) (s : State) : (s.construct c p o).record = [] := rfl
@[simp] theorem construct_env (c : Cfg) (p : SerialParams) (o : Bool) (s : State) : (s.construct c p o).env = { s.env with idles := s.env.idles + 1 } := rfl

/-- Neither delay is shorter than the documented one, in numbers (R136, U12). -/
theorem Cfg.delaysKept_iff (c : Cfg) : c.delaysKept = true ↔ 150 ≤ c.settleMs ∧ 100 ≤ c.postMs := by
  unfold Cfg.delaysKept
  rw [Bool.and_eq_true, decide_eq_true_iff, decide_eq_true_iff]
  exact Iff.rfl

end Sys2Proof.Machine
end

