-- ==== Sys2Proof/Laws/Ops.lean ====
section
/-! SUPPORT. For each shared operation, said once: what it does for each answer of the environment (equations), and what
it leaves alone (frames). -/

namespace Sys2Proof.Machine

/- ### The environment and the device -/

theorem head_queued {α : Type} (free : Nat → α) (r : α) (rs : List α) (n : Nat) :
    Feed.head free { queued := r :: rs, drawn := n } = r := rfl

theorem head_free {α : Type} (free : Nat → α) (n : Nat) :
    Feed.head free { queued := [], drawn := n } = free n := rfl

@[simp] theorem deviceDrift_holding (m : Drift) (d : Device) : (deviceDrift m d).holding = d.holding := rfl
@[simp] theorem deviceDrift_selector (m : Drift) (d : Device) : (deviceDrift m d).selector = d.selector := rfl
@[simp] theorem deviceDrift_input (m : Drift) (d : Device) : (deviceDrift m d).input = m.input.getD d.input := rfl
@[simp] theorem deviceDrift_live (m : Drift) (d : Device) : (deviceDrift m d).live = m.live.getD d.live := rfl
@[simp] theorem deviceSelect_holding (e : Word) (c : Bool) (m : DeviceMove) (d : Device) :
    (deviceSelect e c m d).holding = d.holding := rfl
@[simp] theorem deviceSelect_selector (e : Word) (m : DeviceMove) (d : Device) :
    (deviceSelect e true m d).selector = e := rfl

/-- A store to one of the six holding registers, and to no other. -/
theorem deviceStore_holding {a : Word} (h : a.toNat < Catalog.nHold) (v : Word) (m : DeviceMove) (d : Device) :
    (deviceStore a v m d).holding = d.holding.set a.toNat (uptakeWord m.uptake v) := by
  simp [deviceStore, h]

theorem deviceStore_selector {a : Word} (h : a.toNat < Catalog.nHold) (v : Word) (m : DeviceMove) (d : Device) :
    (deviceStore a v m d).selector = d.selector := by
  simp [deviceStore, h]

/- ### DIRECT: equations -/

theorem dbStoreReturn_done {s : State} {u : Unit} (h : s.blockWriteReply.answer = .returned u) :
    dbStoreReturn s =
      .ended (.status .ok)
        ((s.drewBlockWrite.withDevice
          (deviceStore s.latch.eff s.latch.wdata s.blockWriteReply.move s.device)).note .done).toIdle := by
  simp [dbStoreReturn, h, State.finish]

theorem dbStoreReturn_failed {s : State} (h : s.blockWriteReply.answer = .failed) :
    dbStoreReturn s =
      .ended (.fault .busFault)
        ((s.drewBlockWrite.withDevice
          (deviceStore s.latch.eff s.latch.wdata s.blockWriteReply.move s.device)).note .failed).toIdle := by
  simp [dbStoreReturn, h, State.raiseFault]

theorem dbStoreReturn_pending {s : State} (h : s.blockWriteReply.answer = .pending) :
    dbStoreReturn s =
      .waiting (s.drewBlockWrite.withDevice
        (deviceStore s.latch.eff s.latch.wdata s.blockWriteReply.move s.device)) := by
  simp [dbStoreReturn, h]

theorem dbSelectReturn_done {s : State} {u : Unit} (h : s.blockWriteReply.answer = .returned u) :
    dbSelectReturn s = dbSettle (((selectAnswered true s).note .done).enter .dbSettle) := by
  simp [dbSelectReturn, h]

theorem dbSelectReturn_failed {s : State} (h : s.blockWriteReply.answer = .failed) :
    dbSelectReturn s = .ended (.fault .busFault) ((selectAnswered false s).note .failed).toIdle := by
  simp [dbSelectReturn, h, State.raiseFault]

theorem dbSelectReturn_pending {s : State} (h : s.blockWriteReply.answer = .pending) :
    dbSelectReturn s = .waiting (selectAnswered false s) := by
  simp [dbSelectReturn, h]

/-- The state in which a block read has been answered, before its answer is noted. -/
def fetchAnswered (s : State) : State :=
  s.drewBlockRead.withDevice (deviceDrift s.blockReadReply.move.toDrift s.device)

theorem dbFetchReturn_failed {s : State} (h : s.blockReadReply.answer = .failed) :
    dbFetchReturn s = .ended (.fault .busFault) ((fetchAnswered s).note .failed).toIdle := by
  simp [dbFetchReturn, h, State.raiseFault, fetchAnswered]

theorem dbFetchReturn_pending {s : State} (h : s.blockReadReply.answer = .pending) :
    dbFetchReturn s = .waiting (fetchAnswered s) := by
  simp [dbFetchReturn, h, fetchAnswered]

/-- Two bytes came: the post delay, then their value. -/
theorem dbFetchReturn_two {s : State} {sup : Supplied} {b0 b1 : Byte} (h : s.blockReadReply.answer = .returned sup)
    (hl : directBytes sup (fetchAnswered s).device s.env.blockReads.drawn = [b0, b1]) :
    dbFetchReturn s =
      .ended (.value (combine b0 b1))
        (((((fetchAnswered s).note (.bytes [b0, b1])).latchedBytes [b0, b1]).enter .dbPost).issue
          (.delay s.cfg.postMs)).deviceRuns.toIdle := by
  have hl' : directBytes sup (s.drewBlockRead.withDevice (deviceDrift s.blockReadReply.move.toDrift s.device)).device
      s.env.blockReads.drawn = [b0, b1] := hl
  simp only [dbFetchReturn, h, hl']
  rfl

/-- A number of bytes other than two came (D10). -/
theorem dbFetchReturn_length {s : State} {sup : Supplied} (h : s.blockReadReply.answer = .returned sup)
    (hl : (directBytes sup (fetchAnswered s).device s.env.blockReads.drawn).length ≠ 2) :
    dbFetchReturn s =
      .ended (.fault .busFault)
        (((fetchAnswered s).note (.bytes (directBytes sup (fetchAnswered s).device s.env.blockReads.drawn))).latchedBytes
          (directBytes sup (fetchAnswered s).device s.env.blockReads.drawn)).toIdle := by
  have hl' : ¬ (directBytes sup (s.drewBlockRead.withDevice (deviceDrift s.blockReadReply.move.toDrift s.device)).device
      s.env.blockReads.drawn).length = Catalog.rdLen := hl
  simp only [dbFetchReturn, h, if_neg hl']
  rfl

/-- The state in which the select of a direct-bus read has completed, the settle delay has passed and the block read is
out. -/
def fetchIssued (op : Primitive) (a e : Word) (s : State) : State :=
  { s with
    phase := .dbFetch
    latch := { s.latch with op := op, addr := a, eff := e }
    device := deviceSelect e true s.blockWriteReply.move s.device
    record := s.record ++ [.wire (.blockWrite s.cfg.devAddr (selCmd e) [lowByte e]), .answer .done,
      .wire (.delay s.cfg.settleMs), .wire (.blockRead s.cfg.devAddr 2)]
    env := { s.env with blockWrites := s.env.blockWrites.tail } }

/-- A direct-bus read whose select completes comes down to the reply to its block read. -/
theorem dbRead_done (op : Primitive) (a e : Word) {s : State} {u : Unit} (h : s.blockWriteReply.answer = .returned u) :
    dbRead op a e s = dbFetchReturn (fetchIssued op a e s) := by
  have h' : ((((s.latched op a e).enter .dbSelect).issue
      (.blockWrite s.cfg.devAddr (selCmd e) [lowByte e])).blockWriteReply).answer = .returned u := h
  rw [dbRead, dbSelectReturn_done h', dbSettle, dbFetch]
  simp [State.issue, State.enter, State.note, State.withDevice, State.drewBlockWrite, State.latched, selectAnswered,
    fetchIssued, Catalog.rdLen, State.blockWriteReply]

/-- A direct-bus read whose select does not complete ends there. -/
theorem dbRead_failed (op : Primitive) (a e : Word) {s : State} (h : s.blockWriteReply.answer = .failed) :
    dbRead op a e s =
      .ended (.fault .busFault)
        (((selectAnswered false (((s.latched op a e).enter .dbSelect).issue
          (.blockWrite s.cfg.devAddr (selCmd e) [lowByte e]))).note .failed).toIdle) :=
  dbSelectReturn_failed (s := ((s.latched op a e).enter .dbSelect).issue
    (.blockWrite s.cfg.devAddr (selCmd e) [lowByte e])) h

/-- A direct-bus read whose select has not returned waits in DB_SELECT. -/
theorem dbRead_pending (op : Primitive) (a e : Word) {s : State} (h : s.blockWriteReply.answer = .pending) :
    dbRead op a e s =
      .waiting (selectAnswered false (((s.latched op a e).enter .dbSelect).issue
        (.blockWrite s.cfg.devAddr (selCmd e) [lowByte e]))) :=
  dbSelectReturn_pending (s := ((s.latched op a e).enter .dbSelect).issue
    (.blockWrite s.cfg.devAddr (selCmd e) [lowByte e])) h

@[simp] theorem fetchIssued_cfg (op : Primitive) (a e : Word) (s : State) : (fetchIssued op a e s).cfg = s.cfg := rfl
@[simp] theorem fetchIssued_phase (op : Primitive) (a e : Word) (s : State) : (fetchIssued op a e s).phase = .dbFetch := rfl
@[simp] theorem fetchIssued_sequence (op : Primitive) (a e : Word) (s : State) :
    (fetchIssued op a e s).sequence = s.sequence := rfl
@[simp] theorem fetchIssued_link (op : Primitive) (a e : Word) (s : State) : (fetchIssued op a e s).link = s.link := rfl
@[simp] theorem fetchIssued_device (op : Primitive) (a e : Word) (s : State) :
    (fetchIssued op a e s).device = deviceSelect e true s.blockWriteReply.move s.device := rfl
@[simp] theorem fetchIssued_inbox (op : Primitive) (a e : Word) (s : State) :
    (fetchIssued op a e s).inbox = s.inbox := rfl
@[simp] theorem fetchIssued_response (op : Primitive) (a e : Word) (s : State) :
    (fetchIssued op a e s).response = s.response := rfl
@[simp] theorem fetchIssued_record (op : Primitive) (a e : Word) (s : State) :
    (fetchIssued op a e s).record = s.record ++ [.wire (.blockWrite s.cfg.devAddr (selCmd e) [lowByte e]),
      .answer .done, .wire (.delay s.cfg.settleMs), .wire (.blockRead s.cfg.devAddr 2)] := rfl
@[simp] theorem fetchIssued_env (op : Primitive) (a e : Word) (s : State) :
    (fetchIssued op a e s).env = { s.env with blockWrites := s.env.blockWrites.tail } := rfl
@[simp] theorem fetchIssued_blockReadReply (op : Primitive) (a e : Word) (s : State) :
    (fetchIssued op a e s).blockReadReply = s.blockReadReply := rfl

/- ### SERIAL: equations -/

theorem srWriteReturn_status {s : State} {st : Status} (h : s.rtuWriteReply.answer = .returned st) :
    srWriteReturn s =
      .ended (.status st)
        ((s.drewRtuWrite.withDevice
          (deviceStore s.latch.eff s.latch.wdata s.rtuWriteReply.move s.device)).note (.status st)).toIdle := by
  simp [srWriteReturn, h, State.finish]

theorem srWriteReturn_failed {s : State} (h : s.rtuWriteReply.answer = .failed) :
    srWriteReturn s =
      .ended (.fault .linkFault)
        ((s.drewRtuWrite.withDevice
          (deviceStore s.latch.eff s.latch.wdata s.rtuWriteReply.move s.device)).note .failed).toIdle := by
  simp [srWriteReturn, h, State.raiseFault]

theorem srWriteReturn_pending {s : State} (h : s.rtuWriteReply.answer = .pending) :
    srWriteReturn s =
      .waiting (s.drewRtuWrite.withDevice
        (deviceStore s.latch.eff s.latch.wdata s.rtuWriteReply.move s.device)) := by
  simp [srWriteReturn, h]

/-- The state in which a serial read has been answered, before its answer is noted. -/
def readAnswered (s : State) : State :=
  s.drewRtuRead.withDevice (deviceDrift s.rtuReadReply.move.toDrift s.device)

theorem srReadReturn_bytes {s : State} {sup : Supplied} (h : s.rtuReadReply.answer = .returned sup) :
    srReadReturn s =
      let l := serialBytes sup (readAnswered s).device (spaceOf s.latch.op) s.latch.eff s.env.rtuReads.drawn
      .ended (.value (decodeRsp l)) (((readAnswered s).note (.bytes l)).latchedBytes l).toIdle := by
  simp [srReadReturn, h, State.finish, readAnswered]

theorem srReadReturn_failed {s : State} (h : s.rtuReadReply.answer = .failed) :
    srReadReturn s = .ended (.value 0) ((readAnswered s).note .failed).toIdle := by
  simp [srReadReturn, h, State.finish, readAnswered, Catalog.rdDefault]

theorem srReadReturn_pending {s : State} (h : s.rtuReadReply.answer = .pending) :
    srReadReturn s = .waiting (readAnswered s) := by
  simp [srReadReturn, h, readAnswered]

/- ### Frames -/

/-- The state a primitive operation has come to. -/
def Progress.after : Progress → State
  | .waiting s => s
  | .ended _ s => s

/-- What no primitive operation changes: the configuration, the link, what the requester still asks, the place in
CONFIG_UART, the response port; and the trace only grows. -/
structure Keeps (s t : State) : Prop where
  cfg      : t.cfg = s.cfg
  link     : t.link = s.link
  inbox    : t.inbox = s.inbox
  sequence : t.sequence = s.sequence
  response : t.response = s.response
  record   : s.record <+: t.record

theorem Keeps.trans {s t u : State} (h : Keeps s t) (k : Keeps t u) : Keeps s u :=
  ⟨k.cfg.trans h.cfg, k.link.trans h.link, k.inbox.trans h.inbox, k.sequence.trans h.sequence,
    k.response.trans h.response, h.record.trans k.record⟩

/-- Later steps keep what the first steps kept. -/
theorem Keeps.from {s t u : State} (k : Keeps t u) (h : Keeps s t) : Keeps s u := h.trans k

/-- A primitive operation that ended has left the block in IDLE. -/
def Progress.settled : Progress → Prop
  | .waiting _ => True
  | .ended _ s => s.phase = .idle

theorem dbStoreReturn_keeps (s : State) : Keeps s (dbStoreReturn s).after ∧ (dbStoreReturn s).settled := by
  rcases h : s.blockWriteReply.answer with u | _ | _
  · rw [dbStoreReturn_done h]; exact ⟨⟨rfl, rfl, rfl, rfl, rfl, by simp [Progress.after]⟩, rfl⟩
  · rw [dbStoreReturn_failed h]; exact ⟨⟨rfl, rfl, rfl, rfl, rfl, by simp [Progress.after]⟩, rfl⟩
  · rw [dbStoreReturn_pending h]; exact ⟨⟨rfl, rfl, rfl, rfl, rfl, by simp [Progress.after]⟩, trivial⟩

theorem dbPost_keeps (s : State) : Keeps s (dbPost s).after ∧ (dbPost s).settled := by
  rcases h : combineBytes s.latch.rbuf with _ | v
  · simp only [dbPost, h]; exact ⟨⟨rfl, rfl, rfl, rfl, rfl, by simp [Progress.after, State.raiseFault]⟩, rfl⟩
  · simp only [dbPost, h]; exact ⟨⟨rfl, rfl, rfl, rfl, rfl, by simp [Progress.after, State.finish]⟩, rfl⟩

theorem two_bytes {l : List Byte} (h : l.length = 2) : ∃ b0 b1, l = [b0, b1] := by
  match l, h with
  | [b0, b1], _ => exact ⟨b0, b1, rfl⟩

/-- A block read that is answered leaves the holding bank and the selector alone (C6). -/
theorem dbFetchReturn_keeps (s : State) :
    Keeps s (dbFetchReturn s).after ∧ (dbFetchReturn s).settled ∧
      (dbFetchReturn s).after.device.holding = s.device.holding ∧
      (dbFetchReturn s).after.device.selector = s.device.selector := by
  rcases h : s.blockReadReply.answer with sup | _ | _
  · by_cases hl : (directBytes sup (fetchAnswered s).device s.env.blockReads.drawn).length = 2
    · obtain ⟨b0, b1, hb⟩ := two_bytes hl
      rw [dbFetchReturn_two h hb]
      exact ⟨⟨rfl, rfl, rfl, rfl, rfl, by simp [Progress.after, fetchAnswered]⟩, rfl, rfl, rfl⟩
    · rw [dbFetchReturn_length h hl]
      exact ⟨⟨rfl, rfl, rfl, rfl, rfl, by simp [Progress.after, fetchAnswered]⟩, rfl, rfl, rfl⟩
  · rw [dbFetchReturn_failed h]
    exact ⟨⟨rfl, rfl, rfl, rfl, rfl, by simp [Progress.after, fetchAnswered]⟩, rfl, rfl, rfl⟩
  · rw [dbFetchReturn_pending h]
    exact ⟨⟨rfl, rfl, rfl, rfl, rfl, by simp [Progress.after, fetchAnswered]⟩, trivial, rfl, rfl⟩

theorem dbSettle_keeps (s : State) :
    Keeps s (dbSettle s).after ∧ (dbSettle s).settled ∧
      (dbSettle s).after.device.holding = s.device.holding ∧ (dbSettle s).after.device.selector = s.device.selector := by
  obtain ⟨k, w, h1, h2⟩ := dbFetchReturn_keeps
    (((s.issue (.delay s.cfg.settleMs)).enter .dbFetch).issue (.blockRead s.cfg.devAddr Catalog.rdLen))
  exact ⟨k.from ⟨rfl, rfl, rfl, rfl, rfl, by simp⟩, w, h1, h2⟩

/-- A select that is answered leaves the holding bank alone, and once it has completed the selector is the effective
address (R38, R241). -/
theorem dbSelectReturn_keeps (s : State) :
    Keeps s (dbSelectReturn s).after ∧ (dbSelectReturn s).settled ∧
      (dbSelectReturn s).after.device.holding = s.device.holding ∧
      (∀ u, s.blockWriteReply.answer = .returned u → (dbSelectReturn s).after.device.selector = s.latch.eff) := by
  rcases h : s.blockWriteReply.answer with u | _ | _
  · rw [dbSelectReturn_done h]
    obtain ⟨k, w, h1, h2⟩ := dbSettle_keeps (((selectAnswered true s).note .done).enter .dbSettle)
    exact ⟨k.from ⟨rfl, rfl, rfl, rfl, rfl, by simp [selectAnswered]⟩, w, h1, fun _ _ => h2⟩
  · rw [dbSelectReturn_failed h]
    exact ⟨⟨rfl, rfl, rfl, rfl, rfl, by simp [Progress.after, selectAnswered]⟩, rfl, rfl, fun _ hu => by cases hu⟩
  · rw [dbSelectReturn_pending h]
    exact ⟨⟨rfl, rfl, rfl, rfl, rfl, by simp [Progress.after, selectAnswered]⟩, trivial, rfl, fun _ hu => by cases hu⟩

theorem dbRead_keeps (op : Primitive) (a e : Word) (s : State) :
    Keeps s (dbRead op a e s).after ∧ (dbRead op a e s).settled ∧
      (dbRead op a e s).after.device.holding = s.device.holding ∧
      (∀ u, s.blockWriteReply.answer = .returned u → (dbRead op a e s).after.device.selector = e) := by
  obtain ⟨k, w, h1, h2⟩ := dbSelectReturn_keeps
    (((s.latched op a e).enter .dbSelect).issue (.blockWrite s.cfg.devAddr (selCmd e) [lowByte e]))
  exact ⟨k.from ⟨rfl, rfl, rfl, rfl, rfl, by simp⟩, w, h1, h2⟩

theorem dbWrh_keeps (a v : Word) (s : State) : Keeps s (dbWrh a v s).after ∧ (dbWrh a v s).settled := by
  obtain ⟨k, w⟩ := dbStoreReturn_keeps ((((s.latched .wrh a a).latchedData v).enter .dbStore).issue
    (.blockWrite s.cfg.devAddr (lowByte a) (split v)))
  exact ⟨k.from ⟨rfl, rfl, rfl, rfl, rfl, by simp⟩, w⟩

theorem srWriteReturn_keeps (s : State) : Keeps s (srWriteReturn s).after ∧ (srWriteReturn s).settled := by
  rcases h : s.rtuWriteReply.answer with u | _ | _
  · rw [srWriteReturn_status h]; exact ⟨⟨rfl, rfl, rfl, rfl, rfl, by simp [Progress.after]⟩, rfl⟩
  · rw [srWriteReturn_failed h]; exact ⟨⟨rfl, rfl, rfl, rfl, rfl, by simp [Progress.after]⟩, rfl⟩
  · rw [srWriteReturn_pending h]; exact ⟨⟨rfl, rfl, rfl, rfl, rfl, by simp [Progress.after]⟩, trivial⟩

/-- A serial read leaves the holding bank and the selector alone. -/
theorem srReadReturn_keeps (s : State) :
    Keeps s (srReadReturn s).after ∧ (srReadReturn s).settled ∧
      (srReadReturn s).after.device.holding = s.device.holding ∧
      (srReadReturn s).after.device.selector = s.device.selector := by
  rcases h : s.rtuReadReply.answer with sup | _ | _
  · rw [srReadReturn_bytes h]
    exact ⟨⟨rfl, rfl, rfl, rfl, rfl, by simp [Progress.after, readAnswered]⟩, rfl, rfl, rfl⟩
  · rw [srReadReturn_failed h]
    exact ⟨⟨rfl, rfl, rfl, rfl, rfl, by simp [Progress.after, readAnswered]⟩, rfl, rfl, rfl⟩
  · rw [srReadReturn_pending h]
    exact ⟨⟨rfl, rfl, rfl, rfl, rfl, by simp [Progress.after, readAnswered]⟩, trivial, rfl, rfl⟩

theorem srWrh_keeps (a v : Word) (s : State) : Keeps s (srWrh a v s).after ∧ (srWrh a v s).settled := by
  obtain ⟨k, w⟩ := srWriteReturn_keeps ((((s.latched .wrh a a).latchedData v).enter .srXfer).issue
    (.rtuWriteHolding s.cfg.devAddr a v))
  exact ⟨k.from ⟨rfl, rfl, rfl, rfl, rfl, by simp⟩, w⟩

theorem srRdi_keeps (a : Word) (s : State) :
    Keeps s (srRdi a s).after ∧ (srRdi a s).settled ∧ (srRdi a s).after.device.holding = s.device.holding ∧
      (srRdi a s).after.device.selector = s.device.selector := by
  obtain ⟨k, w, h1, h2⟩ := srReadReturn_keeps
    (((s.latched .rdi a a).enter .srXfer).issue (.rtuReadInput s.cfg.devAddr a Catalog.rdCount))
  exact ⟨k.from ⟨rfl, rfl, rfl, rfl, rfl, by simp⟩, w, h1, h2⟩

theorem srRdh_keeps (a : Word) (s : State) :
    Keeps s (srRdh a s).after ∧ (srRdh a s).settled ∧ (srRdh a s).after.device.holding = s.device.holding ∧
      (srRdh a s).after.device.selector = s.device.selector := by
  obtain ⟨k, w, h1, h2⟩ := srReadReturn_keeps
    (((s.latched .rdh a a).enter .srXfer).issue (.rtuReadHolding s.cfg.devAddr a Catalog.rdCount))
  exact ⟨k.from ⟨rfl, rfl, rfl, rfl, rfl, by simp⟩, w, h1, h2⟩

/-- Everything an input read leaves alone, on either transport. -/
theorem readInput_keeps (a : Word) (s : State) :
    Keeps s (readInput a s).after ∧ (readInput a s).settled ∧
      (readInput a s).after.device.holding = s.device.holding := by
  rcases h : s.cfg.transport
  · simp only [readInput, h, dbRdi]
    exact ⟨(dbRead_keeps _ _ _ s).1, (dbRead_keeps _ _ _ s).2.1, (dbRead_keeps _ _ _ s).2.2.1⟩
  · simp only [readInput, h]
    exact ⟨(srRdi_keeps a s).1, (srRdi_keeps a s).2.1, (srRdi_keeps a s).2.2.1⟩

/-- Everything a holding read leaves alone, on either transport. -/
theorem readHolding_keeps (a : Word) (s : State) :
    Keeps s (readHolding a s).after ∧ (readHolding a s).settled ∧
      (readHolding a s).after.device.holding = s.device.holding := by
  rcases h : s.cfg.transport
  · simp only [readHolding, h, dbRdh]
    exact ⟨(dbRead_keeps _ _ _ s).1, (dbRead_keeps _ _ _ s).2.1, (dbRead_keeps _ _ _ s).2.2.1⟩
  · simp only [readHolding, h]
    exact ⟨(srRdh_keeps a s).1, (srRdh_keeps a s).2.1, (srRdh_keeps a s).2.2.1⟩

/-- Everything a holding write leaves alone, on either transport. -/
theorem writeHolding_keeps (a v : Word) (s : State) :
    Keeps s (writeHolding a v s).after ∧ (writeHolding a v s).settled := by
  rcases h : s.cfg.transport
  · simp only [writeHolding, h]; exact dbWrh_keeps a v s
  · simp only [writeHolding, h]; exact srWrh_keeps a v s

end Sys2Proof.Machine
end

