-- ==== Sys2Proof/Laws/Exec.lean ====
section
/-! SUPPORT. What an operation that answers a next state can have been, said once (`exec_shape`); what dispatch comes to
on each transport; how the functions of Safety.lean read a trace that has grown. -/

namespace Sys2Proof.Machine

/-- An operation that answers is an input read, a holding read, a holding write with a wire form, CONFIG_UART, or a
reserved code. -/
theorem exec_shape {i : Instr} {s t : State} (h : exec i s = .next t) :
    (∃ a, t = (readInput a s).single) ∨ (∃ a, t = (readHolding a s).single) ∨
      (∃ a v, (s.cfg.transport = .direct → a.toNat < 256) ∧ t = (writeHolding a v s).single) ∨
      (∃ b p q, t = uartAfterFirst (packUart p q) (writeHolding Catalog.baudRate b s)) ∨
      t = (s.raiseFault .illegalOp).single := by
  cases i
  case rdi a x => exact .inl ⟨a, (Host.Outcome.next.inj h).symm⟩
  case rdh a x => exact .inr (.inl ⟨a, (Host.Outcome.next.inj h).symm⟩)
  case wrh a v =>
    simp only [exec, execWrh] at h
    split at h
    · cases h
    · rename_i hw
      refine .inr (.inr (.inl ⟨a, v, fun hd => ?_, (Host.Outcome.next.inj h).symm⟩))
      rw [← storable_iff]
      simpa [hd] using hw
  case configUart b p q => exact .inr (.inr (.inr (.inl ⟨b, p, q, (Host.Outcome.next.inj h).symm⟩)))
  case reserved a x => exact .inr (.inr (.inr (.inr (Host.Outcome.next.inj h).symm)))
  case setAddr v => exact .inr (.inr (.inl ⟨_, v, fun _ => by decide, (Host.Outcome.next.inj h).symm⟩))
  case setFaceDetectThres v => exact .inr (.inr (.inl ⟨_, v, fun _ => by decide, (Host.Outcome.next.inj h).symm⟩))
  case setFaceScoreThres v => exact .inr (.inr (.inl ⟨_, v, fun _ => by decide, (Host.Outcome.next.inj h).symm⟩))
  case setGestureScoreThres v => exact .inr (.inr (.inl ⟨_, v, fun _ => by decide, (Host.Outcome.next.inj h).symm⟩))
  all_goals exact .inl ⟨_, (Host.Outcome.next.inj h).symm⟩

theorem readInput_direct {s : State} (a : Word) (h : s.cfg.transport = .direct) :
    readInput a s = dbRead .rdi a (inputEff a) s := by simp [readInput, h, dbRdi]
theorem readHolding_direct {s : State} (a : Word) (h : s.cfg.transport = .direct) :
    readHolding a s = dbRead .rdh a a s := by simp [readHolding, h, dbRdh]
theorem writeHolding_direct {s : State} (a v : Word) (h : s.cfg.transport = .direct) :
    writeHolding a v s = dbWrh a v s := by simp [writeHolding, h]
theorem readInput_serial {s : State} (a : Word) (h : s.cfg.transport = .serial) : readInput a s = srRdi a s := by
  simp [readInput, h]
theorem readHolding_serial {s : State} (a : Word) (h : s.cfg.transport = .serial) : readHolding a s = srRdh a s := by
  simp [readHolding, h]
theorem writeHolding_serial {s : State} (a v : Word) (h : s.cfg.transport = .serial) :
    writeHolding a v s = srWrh a v s := by simp [writeHolding, h]

theorem outcomes_append (l m : List Entry) : outcomes (l ++ m) = outcomes l ++ outcomes m := List.filterMap_append

theorem wireEvents_append (l m : List Entry) : wireEvents (l ++ m) = wireEvents l ++ wireEvents m :=
  List.filterMap_append

theorem delayMs_append (l m : List Entry) : delayMs (l ++ m) = delayMs l + delayMs m := by
  simp [delayMs, wireEvents_append]

theorem traceStage_append (c : Cfg) (l m : List Entry) :
    traceStage c (l ++ m) = m.foldl (stageNext c) (traceStage c l) := List.foldl_append

@[simp] theorem stageNext_broken (c : Cfg) (e : Entry) : stageNext c .broken e = .broken := by cases e <;> rfl

/-- An unlawful trace stays unlawful. -/
theorem foldl_broken (c : Cfg) (l : List Entry) : l.foldl (stageNext c) .broken = .broken := by
  induction l with
  | nil => rfl
  | cons e l ih => rw [List.foldl_cons, stageNext_broken, ih]

end Sys2Proof.Machine
end

