-- ==== Sys2Proof/Laws/PerInstr.lean ====
section
/-! SUPPORT. Laws stated per instruction: the words of an operation match its row of spec/opcode_table.json. -/

namespace Sys2Proof.Laws.TableMatch

/-- The mask and match of each command word of a row, as the table writes them. -/
def row : Instr → List (CommandWord × CommandWord)
  | .rdi _ _ => [(0x300000000, 0x000000000)]
  | .rdh _ _ => [(0x300000000, 0x100000000)]
  | .wrh _ _ => [(0x300000000, 0x200000000)]
  | .getPid _ => [(0x3FFFF0000, 0x000000000)]
  | .getVid _ => [(0x3FFFF0000, 0x000010000)]
  | .getFaceNumber _ => [(0x3FFFF0000, 0x000040000)]
  | .getFaceX _ => [(0x3FFFF0000, 0x000050000)]
  | .getFaceY _ => [(0x3FFFF0000, 0x000060000)]
  | .getFaceScore _ => [(0x3FFFF0000, 0x000070000)]
  | .getGestureType _ => [(0x3FFFF0000, 0x000080000)]
  | .getGestureScore _ => [(0x3FFFF0000, 0x000090000)]
  | .setAddr _ => [(0x3FFFF0000, 0x200000000)]
  | .setFaceDetectThres _ => [(0x3FFFF0000, 0x200030000)]
  | .setFaceScoreThres _ => [(0x3FFFF0000, 0x200040000)]
  | .setGestureScoreThres _ => [(0x3FFFF0000, 0x200050000)]
  | .configUart _ _ _ => [(0x3FFFF0000, 0x200010000), (0x3FFFF0000, 0x200020000)]
  | .reserved _ _ => [(0x300000000, 0x300000000)]

/-- As many words as the row has, each matching its pattern. -/
def Statement (i : Instr) : Prop := (encode i).zipWith (fun w p => w &&& p.1) (row i) = (row i).map Prod.snd

theorem mask_op (op : BitVec 2) (a d : Word) : commandWord op a d &&& 0x300000000#34 = commandWord op 0 0 := by
  have h : (0x300000000#34 : CommandWord) = (0b11#2 ++ 0#16 ++ 0#16 : BitVec 34) := rfl
  have ho : op &&& 0b11#2 = op := by revert op; decide
  rw [h]
  unfold commandWord
  rw [BitVec.and_append, BitVec.and_append, ho, BitVec.and_zero, BitVec.and_zero]
  rfl

theorem mask_opAddr (op : BitVec 2) (a d : Word) : commandWord op a d &&& 0x3FFFF0000#34 = commandWord op a 0 := by
  have h : (0x3FFFF0000#34 : CommandWord) = (0b11#2 ++ BitVec.allOnes 16 ++ 0#16 : BitVec 34) := rfl
  have ho : op &&& 0b11#2 = op := by revert op; decide
  rw [h]
  unfold commandWord
  rw [BitVec.and_append, BitVec.and_append, ho, BitVec.and_allOnes, BitVec.and_zero]
  rfl

/-- A one-word row that fixes the operation code alone. -/
theorem of_op (op : BitVec 2) (a d : Word) {m : CommandWord} (h : commandWord op 0 0 = m) :
    [commandWord op a d].zipWith (fun w p => w &&& p.1) [((0x300000000 : CommandWord), m)] =
      [((0x300000000 : CommandWord), m)].map Prod.snd := by
  simpa using (mask_op op a d).trans h

/-- A one-word row that fixes operation code and address. -/
theorem of_opAddr (op : BitVec 2) (a d : Word) {m : CommandWord} (h : commandWord op a 0 = m) :
    [commandWord op a d].zipWith (fun w p => w &&& p.1) [((0x3FFFF0000 : CommandWord), m)] =
      [((0x3FFFF0000 : CommandWord), m)].map Prod.snd := by
  simpa using (mask_opAddr op a d).trans h

theorem rdi (a x : Word) : Statement (.rdi a x) := of_op _ _ _ (by decide)
theorem rdh (a x : Word) : Statement (.rdh a x) := of_op _ _ _ (by decide)
theorem wrh (a v : Word) : Statement (.wrh a v) := of_op _ _ _ (by decide)
theorem getPid (x : Word) : Statement (.getPid x) := of_opAddr _ _ _ (by decide)
theorem getVid (x : Word) : Statement (.getVid x) := of_opAddr _ _ _ (by decide)
theorem getFaceNumber (x : Word) : Statement (.getFaceNumber x) := of_opAddr _ _ _ (by decide)
theorem getFaceX (x : Word) : Statement (.getFaceX x) := of_opAddr _ _ _ (by decide)
theorem getFaceY (x : Word) : Statement (.getFaceY x) := of_opAddr _ _ _ (by decide)
theorem getFaceScore (x : Word) : Statement (.getFaceScore x) := of_opAddr _ _ _ (by decide)
theorem getGestureType (x : Word) : Statement (.getGestureType x) := of_opAddr _ _ _ (by decide)
theorem getGestureScore (x : Word) : Statement (.getGestureScore x) := of_opAddr _ _ _ (by decide)
theorem setAddr (v : Word) : Statement (.setAddr v) := of_opAddr _ _ _ (by decide)
theorem setFaceDetectThres (v : Word) : Statement (.setFaceDetectThres v) := of_opAddr _ _ _ (by decide)
theorem setFaceScoreThres (v : Word) : Statement (.setFaceScoreThres v) := of_opAddr _ _ _ (by decide)
theorem setGestureScoreThres (v : Word) : Statement (.setGestureScoreThres v) := of_opAddr _ _ _ (by decide)
theorem configUart (b : Word) (p q : Byte) : Statement (.configUart b p q) := by
  have h1 := (mask_opAddr 0b10 Catalog.baudRate b).trans (show _ = (0x200010000 : CommandWord) by decide)
  have h2 := (mask_opAddr 0b10 Catalog.parityStop (Machine.packUart p q)).trans
    (show _ = (0x200020000 : CommandWord) by decide)
  simpa [Statement, encode, row] using ⟨h1, h2⟩
theorem reserved (a x : Word) : Statement (.reserved a x) := of_op _ _ _ (by decide)

end Sys2Proof.Laws.TableMatch
end

