-- ==== Sys2Proof/Laws/Step.lean ====
section
/-! SUPPORT. What a step comes to in each phase, what goes on from each place in CONFIG_UART and each phase, and when an
event keeps a trace lawful, each said once. -/

namespace Sys2Proof.Machine

/-- At an IDLE block the device runs, then the next request is taken. -/
theorem step_idle {s : State} (h : s.phase = .idle) : step s = s.deviceRuns.takeRequest := by
  have h' : s.deviceRuns.phase = .idle := h
  simp only [step, State.advance, h']

/-- At a busy block the device runs, then the operation goes on. -/
theorem step_busy {s : State} (h : s.phase ≠ .idle) : step s = .next s.deviceRuns.resume := by
  have h' : s.deviceRuns.phase = s.phase := rfl
  simp only [step, State.advance, h']
  cases hp : s.phase <;> simp_all

theorem takeRequest_none {s : State} (h : s.inbox = []) : s.takeRequest = .next s := by
  simp only [State.takeRequest, h]

theorem takeRequest_command {s : State} {ws : List CommandWord} {rest : List Request}
    (h : s.inbox = .command ws :: rest) : s.takeRequest = s.present ws rest := by
  simp only [State.takeRequest, h]

theorem takeRequest_construct {s : State} {c : Cfg} {p : SerialParams} {o : Bool} {rest : List Request}
    (h : s.inbox = .construct c p o :: rest) : s.takeRequest = s.build c p o rest := by
  simp only [State.takeRequest, h]

theorem build_kept {c : Cfg} (h : c.delaysKept = true) (p : SerialParams) (o : Bool) (rest : List Request) (s : State) :
    s.build c p o rest = .next ((s.construct c p o).accept rest) := if_pos h

theorem build_short {c : Cfg} (h : ¬ c.delaysKept = true) (p : SerialParams) (o : Bool) (rest : List Request)
    (s : State) : s.build c p o rest = .refused (.delaysTooShort c.settleMs c.postMs) := if_neg h

theorem resume_single {s : State} (h : s.sequence = .single) : s.resume = (resumePrimitive s).single := by
  simp only [State.resume, h]

theorem resume_uartFirst {s : State} {w : Word} (h : s.sequence = .uartFirst w) :
    s.resume = uartAfterFirst w (resumePrimitive s) := by
  simp only [State.resume, h]

theorem resume_uartSecond {s : State} {first : Status} (h : s.sequence = .uartSecond first) :
    s.resume = uartAfterSecond first (resumePrimitive s) := by
  simp only [State.resume, h]

theorem resumePrimitive_dbStore {s : State} (h : s.phase = .dbStore) : resumePrimitive s = dbStoreReturn s := by
  simp only [resumePrimitive, h]

theorem resumePrimitive_dbSelect {s : State} (h : s.phase = .dbSelect) : resumePrimitive s = dbSelectReturn s := by
  simp only [resumePrimitive, h]

theorem resumePrimitive_dbSettle {s : State} (h : s.phase = .dbSettle) : resumePrimitive s = dbSettle s := by
  simp only [resumePrimitive, h]

theorem resumePrimitive_dbFetch {s : State} (h : s.phase = .dbFetch) : resumePrimitive s = dbFetchReturn s := by
  simp only [resumePrimitive, h]

theorem resumePrimitive_dbPost {s : State} (h : s.phase = .dbPost) : resumePrimitive s = dbPost s := by
  simp only [resumePrimitive, h]

theorem resumePrimitive_write {s : State} (h : s.phase = .srXfer) (ho : s.latch.op = .wrh) :
    resumePrimitive s = srWriteReturn s := by
  simp only [resumePrimitive, h, srReturn, ho]

theorem resumePrimitive_read {s : State} (h : s.phase = .srXfer) (ho : s.latch.op ≠ .wrh) :
    resumePrimitive s = srReadReturn s := by
  simp only [resumePrimitive, h, srReturn]
  cases hop : s.latch.op <;> simp_all

/-- An event that does not break the trace is lawful where it stands. -/
theorem goesTo_ne {b : Bool} {g : Stage} (h : goesTo b g ≠ .broken) : b = true ∧ goesTo b g = g := by
  unfold goesTo at *
  split at h <;> simp_all

end Sys2Proof.Machine
end

