-- ==== Sys2Proof/Tests/Slice0.lean ====
section
/-! SUPPORT. Small tests: the checks of WellFormed, the decoder on words written out from spec/30_encoding.md, one step
of each operation against spec/95_test_vectors.md, and a witness for every statement that has hypotheses. -/

namespace Sys2Proof.Tests

open Sys2Proof.Machine Sys2Proof.Claims

/- ### States to test on -/

/-- A reply of a device that does nothing of its own. -/
def replies {α : Type} (a : α) : Reply α := { answer := .returned a, move := .still }

/-- A failing wire primitive. -/
def fails {α : Type} : Reply α := { answer := .failed, move := .still }

/-- A wire primitive that has not returned. -/
def waits {α : Type} : Reply α := { answer := .pending, move := .still }

/-- A direct-bus instance at 0x10 (the address of the spec's examples) with these replies to come. -/
def onDirect (w : List (Reply Unit)) (r : List (Reply Supplied)) : State :=
  { State.new (Cfg.documented .direct 0x10) { baud := 0, parity := 0, stopBits := 0 } with
    env := { freeEnv with blockWrites := { queued := w, drawn := 0 }, blockReads := { queued := r, drawn := 0 } } }

/-- A serial instance at 0x10 with these replies to come. -/
def onSerial (w : List (Reply Status)) (r : List (Reply Supplied)) : State :=
  { State.new (Cfg.documented .serial 0x10) { baud := 0, parity := 0, stopBits := 0 } with
    env := { freeEnv with rtuWrites := { queued := w, drawn := 0 }, rtuReads := { queued := r, drawn := 0 } } }

/-- The trace of the state a step answers. -/
def traceOf : Host.Outcome State Fault Refusal → List Entry
  | .next s => s.record
  | .fault _ => []
  | .refused _ => []

/-- The trace of a completed direct-bus read of the instance at 0x10, as 95_test_vectors 2.5 writes it. -/
def readTrace (cmd al b0 b1 : Byte) (v : Word) : List Entry :=
  [.wire (.blockWrite 0x10 cmd [al]), .answer .done, .wire (.delay 150), .wire (.blockRead 0x10 2),
    .answer (.bytes [b0, b1]), .wire (.delay 100), .outcome (.value v)]

/-- A state whose next direct-bus read brings these two bytes. -/
def bringing (b0 b1 : Byte) : State := onDirect [replies ()] [replies (.bytes [b0, b1])]

/-- A state whose next serial read brings this sequence. -/
def handing (l : List Byte) : State := onSerial [] [replies (.bytes l)]

/-- A device that keeps its input bank and its live settings. -/
def quietDrift : Drift := { input := none, live := none }

/-- A direct-bus instance whose operation waits in `ph` at place `q` of CONFIG_UART, `eff` and `v` latched. -/
def waitingDirect (ph : Phase) (q : Sequence) (eff v : Word) (w : List (Reply Unit)) (r : List (Reply Supplied)) : State :=
  { onDirect w r with phase := ph, sequence := q, latch := { op := .wrh, addr := eff, wdata := v, eff := eff, rbuf := [] } }

/-- A serial instance whose operation `op` waits, likewise. -/
def waitingSerial (op : Primitive) (q : Sequence) (eff v : Word) (w : List (Reply Status)) (r : List (Reply Supplied)) :
    State :=
  { onSerial w r with
    phase := .srXfer, sequence := q, latch := { op := op, addr := eff, wdata := v, eff := eff, rbuf := [] } }

/- ### The catalog (20_memory R59 to R61) -/

theorem test_catalog_entry : Catalog.address .gestureType = 0x0008 ∧ Catalog.space .gestureType = .input ∧
    Catalog.address .gestureScoreThres = 0x0005 ∧ Catalog.space .gestureScoreThres = .hold := by decide
theorem test_phys_map :
    phys? { blankDevice with input := #v[10, 11, 12, 13, 14, 15, 16, 17, 18, 19] } 0x0006 = some 10 ∧
      phys? { blankDevice with input := #v[10, 11, 12, 13, 14, 15, 16, 17, 18, 19] } 0x000F = some 19 ∧
      phys? blankDevice 0x0010 = none := by decide

/- ### WellFormed: an ill-formed term for each check, which the check refuses -/

theorem test_wf_refuses_rdi_at_getter : (Instr.rdi 0x0008 0).wellFormed = false := by decide
theorem test_wf_refuses_wrh_at_setter : (Instr.wrh 0x0003 60).wellFormed = false := by decide
theorem test_wf_takes_rdi_elsewhere : (Instr.rdi 0x0002 0).wellFormed = true := by decide
theorem test_wf_takes_wrh_elsewhere : (Instr.wrh 0x0001 9600).wellFormed = true := by decide

/- ### Decoding: every constructor from a word written out from R80, R81 and the table -/

theorem test_decode_rdi : decode [0b00_0000000000000010_0000000000000000#34] = .ok (.rdi 0x0002 0) := by decide
theorem test_decode_rdh : decode [0b01_0000000000000101_0000000000000000#34] = .ok (.rdh 0x0005 0) := by decide
theorem test_decode_wrh : decode [0b10_0000000000000001_0010010110000000#34] = .ok (.wrh 0x0001 9600) := by decide
theorem test_decode_getPid : decode [0b00_0000000000000000_0000000000000000#34] = .ok (.getPid 0) := by decide
theorem test_decode_getVid : decode [0b00_0000000000000001_0000000000000000#34] = .ok (.getVid 0) := by decide
theorem test_decode_getFaceNumber :
    decode [0b00_0000000000000100_0000000000000000#34] = .ok (.getFaceNumber 0) := by decide
theorem test_decode_getFaceX : decode [0b00_0000000000000101_0000000000000000#34] = .ok (.getFaceX 0) := by decide
theorem test_decode_getFaceY : decode [0b00_0000000000000110_0000000000000000#34] = .ok (.getFaceY 0) := by decide
theorem test_decode_getFaceScore :
    decode [0b00_0000000000000111_0000000000000000#34] = .ok (.getFaceScore 0) := by decide
theorem test_decode_getGestureType :
    decode [0b00_0000000000001000_1011111011101111#34] = .ok (.getGestureType 0xBEEF) := by decide
theorem test_decode_getGestureScore :
    decode [0b00_0000000000001001_0000000000000000#34] = .ok (.getGestureScore 0) := by decide
theorem test_decode_setAddr : decode [0b10_0000000000000000_0000000000100000#34] = .ok (.setAddr 0x20) := by decide
theorem test_decode_setFaceDetectThres :
    decode [0b10_0000000000000011_0000000000111100#34] = .ok (.setFaceDetectThres 60) := by decide
theorem test_decode_setFaceScoreThres :
    decode [0b10_0000000000000100_0000000001010000#34] = .ok (.setFaceScoreThres 80) := by decide
theorem test_decode_setGestureScoreThres :
    decode [0b10_0000000000000101_0000000001100100#34] = .ok (.setGestureScoreThres 100) := by decide
theorem test_decode_configUart :
    decode [0b10_0000000000000001_0010010110000000#34, 0b10_0000000000000010_0000000000000010#34] =
      .ok (.configUart 9600 0 2) := by decide
theorem test_decode_reserved :
    decode [0b11_0000000000000000_0000000000000000#34] = .ok (.reserved 0 0) := by decide
theorem test_decode_refuses_empty : decode [] = .error .empty := by decide
theorem test_decode_refuses_pair : decode [0x200012580#34, 0x000000000#34] = .error .notASequence := by decide
theorem test_decode_refuses_three : decode [0#34, 0#34, 0#34] = .error .tooManyWords := by decide
theorem test_tableWord_one : decodeTableWord 40 0x100030000 = some (.rdh 0x0003 0) := by decide
theorem test_tableWord_two :
    decodeTableWord 72 (0x200012580 + 0x200020002 * 2 ^ 34) = some (.configUart 9600 0 2) := by decide
theorem test_encode_configUart : encode (.configUart 9600 1 1) = [0x200012580#34, 0x200020101#34] := by decide

/- ### One step of each operation (95_test_vectors 2.4 to 2.8) -/

theorem test_rdi_direct_carry : traceOf (exec (.rdi 0x00FA 0) (bringing 0x12 0x34)) = readTrace 0x01 0x00 0x12 0x34 0x1234 := by
  decide
theorem test_rdi_serial_no_offset :
    traceOf (exec (.rdi 0x0002 0) (handing [0x99, 0x12, 0x34, 0x56])) =
      [.wire (.rtuReadInput 0x10 0x0002 1), .answer (.bytes [0x99, 0x12, 0x34, 0x56]), .outcome (.value 0x1234)] := by
  decide
theorem test_rdh_direct : traceOf (exec (.rdh 0x0003 0) (bringing 0x00 0x3C)) = readTrace 0x00 0x03 0x00 0x3C 0x003C := by
  decide
theorem test_rdh_serial_short :
    traceOf (exec (.rdh 0x0003 0) (handing [0x12, 0x34])) =
      [.wire (.rtuReadHolding 0x10 0x0003 1), .answer (.bytes [0x12, 0x34]), .outcome (.value 0)] := by decide
theorem test_wrh_direct :
    traceOf (exec (.wrh 0x0001 9600) (onDirect [replies ()] [])) =
      [.wire (.blockWrite 0x10 0x01 [0x25, 0x80]), .answer .done, .outcome (.status .ok)] := by decide
theorem test_wrh_serial_raises :
    traceOf (exec (.wrh 0x0103 0xFFFF) (onSerial [fails] [])) =
      [.wire (.rtuWriteHolding 0x10 0x0103 0xFFFF), .answer .failed, .outcome (.fault .linkFault)] := by decide
theorem test_getPid : traceOf (exec (.getPid 0) (bringing 0x12 0x34)) = readTrace 0 0x06 0x12 0x34 0x1234 := by decide
theorem test_getVid : traceOf (exec (.getVid 0) (bringing 0x12 0x34)) = readTrace 0 0x07 0x12 0x34 0x1234 := by decide
theorem test_getFaceNumber : traceOf (exec (.getFaceNumber 0) (bringing 0x00 0x01)) = readTrace 0 0x0A 0x00 0x01 1 := by
  decide
theorem test_getFaceX : traceOf (exec (.getFaceX 0) (bringing 0x01 0x40)) = readTrace 0 0x0B 0x01 0x40 320 := by decide
theorem test_getFaceY : traceOf (exec (.getFaceY 0) (bringing 0x00 0xF0)) = readTrace 0 0x0C 0x00 0xF0 240 := by decide
theorem test_getFaceScore : traceOf (exec (.getFaceScore 0) (bringing 0x00 0x5A)) = readTrace 0 0x0D 0x00 0x5A 90 := by
  decide
theorem test_getGestureType : traceOf (exec (.getGestureType 0) (bringing 0xFF 0xFF)) = readTrace 0 0x0E 0xFF 0xFF 0xFFFF := by
  decide
theorem test_getGestureScore : traceOf (exec (.getGestureScore 0) (bringing 0x00 0x55)) = readTrace 0 0x0F 0x00 0x55 85 := by
  decide
theorem test_setAddr :
    traceOf (exec (.setAddr 256) (onDirect [replies ()] [])) =
      [.wire (.blockWrite 0x10 0x00 [0x01, 0x00]), .answer .done, .outcome (.status .ok)] := by decide
theorem test_setFaceDetectThres :
    traceOf (exec (.setFaceDetectThres 60) (onDirect [replies ()] [])) =
      [.wire (.blockWrite 0x10 0x03 [0x00, 0x3C]), .answer .done, .outcome (.status .ok)] := by decide
theorem test_setFaceScoreThres :
    traceOf (exec (.setFaceScoreThres 80) (onSerial [replies .ok] [])) =
      [.wire (.rtuWriteHolding 0x10 0x0004 0x0050), .answer (.status .ok), .outcome (.status .ok)] := by decide
theorem test_setGestureScoreThres :
    traceOf (exec (.setGestureScoreThres 100) (onDirect [fails] [])) =
      [.wire (.blockWrite 0x10 0x05 [0x00, 0x64]), .answer .failed, .outcome (.fault .busFault)] := by decide
theorem test_configUart_fail_then_ok :
    traceOf (exec (.configUart 9600 0 2) (onSerial [replies .fail, replies .ok] [])) =
      [.wire (.rtuWriteHolding 0x10 0x0001 0x2580), .answer (.status .fail),
        .wire (.rtuWriteHolding 0x10 0x0002 0x0002), .answer (.status .ok), .outcome (.status .fail)] := by decide
theorem test_configUart_first_fault :
    traceOf (exec (.configUart 9600 0 2) (onDirect [fails, replies ()] [])) =
      [.wire (.blockWrite 0x10 0x01 [0x25, 0x80]), .answer .failed, .outcome (.fault .busFault)] := by decide
theorem test_reserved : traceOf (exec (.reserved 0 0) (onDirect [] [])) = [.outcome (.fault .illegalOp)] := by decide

/-- From reset the first step runs the word placed, whatever the environment answers. -/
theorem test_step_runs_placed_word : ∃ t, step (State.reset.withFetchWord 40 0x100030000) = .next t := ⟨_, rfl⟩

/-- A device that takes the value and answers from its registers: the next read brings it (P1). -/
theorem test_read_back :
    traceOf (exec (.rdh 0x0003 0)
      { onDirect [replies ()] [replies .contents] with
        device := { blankDevice with holding := #v[0, 0, 0, 0x003C, 0, 0] } }) = readTrace 0 0x03 0x00 0x3C 60 := by
  decide

/-- A waiting operation goes on when its primitive returns, without a second event (R250). -/
theorem test_waiting_read_goes_on :
    traceOf (match exec (.rdh 0x0003 0) (onDirect [waits, replies ()] [replies (.bytes [0x00, 0x3C])]) with
      | .next s => step s
      | .fault r => .fault r
      | .refused r => .refused r) = readTrace 0 0x03 0x00 0x3C 60 := by
  decide

/- ### Witnesses: each statement's hypotheses are met together -/

theorem witness_DecodeOfEncodeIsIdentity :
    (Instr.rdi 0xFFFF 0xFFFF).wellFormed = true ∧ (Instr.configUart 0xFFFF 0xFF 0xFF).wellFormed = true := by decide
theorem witness_EncodeOfDecodeIsIdentity :
    decode [0x3FFFFFFFF#34] = .ok (.reserved 0xFFFF 0xFFFF) ∧
      decode [0x200010000#34, 0x20002FFFF#34] = .ok (.configUart 0 0xFF 0xFF) := by decide
theorem witness_UartWordsAloneAreOrdinaryWrites :
    encode (.configUart 9600 0 2) = [0x200012580#34, 0x200020002#34] := by decide
theorem witness_ResponseWordsAreAsLaidOut : readResponse 0x20003#18 = some (.fault .illegalOp) := by decide
theorem witness_ResponseDecoderRule :
    ([0x12, 0x34] : List Byte).length < 3 ∧ 1 < ([0x02, 0x12, 0x34] : List Byte).length ∧
      2 < ([0x02, 0x12, 0x34] : List Byte).length := by decide
/-- Both clauses of ConstructionRequestTakesEffect, at the boundary of each delay. -/
theorem witness_ConstructionRequestTakesEffect :
    (∃ s : State, s.phase = .idle ∧
      s.inbox = [.construct (Cfg.documented .serial 0xFF) { baud := 9600, parity := 0, stopBits := 2 } false]) ∧
      (150 ≤ (Cfg.documented .serial 0xFF).settleMs ∧ 100 ≤ (Cfg.documented .serial 0xFF).postMs) ∧
      ({ Cfg.documented .serial 0xFF with postMs := 99 } : Cfg).postMs < 100 :=
  ⟨⟨{ onDirect [] [] with
      inbox := [.construct (Cfg.documented .serial 0xFF) { baud := 9600, parity := 0, stopBits := 2 } false] }, rfl, rfl⟩,
    by decide, by decide⟩

/-- A construction with a settle delay of 149 ms is refused (U12). -/
theorem test_short_delay_refused :
    step { onDirect [] [] with
      inbox := [.construct { Cfg.documented .direct 0x10 with settleMs := 149 } default true] } =
      .refused (.delaysTooShort 149 100) := by rfl

theorem witness_StepRunsDecodedOperation :
    ∃ s : State, s.phase = .idle ∧ s.link.isOpen = true ∧ s.inbox = [.command [0x100030000#34]] ∧
      decode [0x100030000#34] = .ok (.rdh 0x0003 0) :=
  ⟨{ onDirect [] [] with inbox := [.command [0x100030000#34]] }, rfl, rfl, rfl, by decide⟩
theorem witness_IdleBlockWaits : State.reset.phase = .idle ∧ State.reset.inbox = [] := ⟨rfl, rfl⟩
theorem witness_BusyPortAcceptsNothing : ({ onDirect [] [] with phase := .dbSelect } : State).phase ≠ .idle := by decide

/-- One witness for each of its two clauses. -/
theorem witness_NoInstanceAndMalformedStopsOccurExactly :
    (∃ s : State, s.phase = .idle ∧ s.inbox = [.command []] ∧ s.link.isOpen = false) ∧
      ∃ s : State, s.phase = .idle ∧ s.inbox = [.command []] ∧ s.link.isOpen = true ∧ ∀ i, decode [] ≠ .ok i :=
  ⟨⟨{ onDirect [] [] with inbox := [.command []], link := { isOpen := false, params := default } }, rfl, rfl, rfl⟩,
    { onDirect [] [] with inbox := [.command []] }, rfl, rfl, rfl, fun _ h => by cases h⟩

/-- For RdiOnDirectCompletes, RdhOnDirectCompletes, and the first clause of GettersComplete. -/
theorem witness_direct_read :
    (bringing 0x12 0x34).cfg.transport = .direct ∧ (bringing 0x12 0x34).blockWriteReply.answer = .returned () ∧
      (bringing 0x12 0x34).blockReadReply.answer = .returned (.bytes [0x12, 0x34]) ∧ getters ≠ [] :=
  ⟨rfl, rfl, rfl, by simp [getters]⟩

/-- For WrhOnDirectCompletes (at 0x00FF, and at H5 for the register clause) and the first clause of SettersComplete. -/
theorem witness_direct_write :
    (onDirect [replies ()] []).cfg.transport = .direct ∧ (0x00FF : Word).toNat < 256 ∧
      (onDirect [replies ()] []).blockWriteReply.answer = .returned () ∧ (0x0005 : Word) = holdAddr 5 ∧ setters ≠ [] :=
  ⟨rfl, by decide, rfl, rfl, by simp [setters]⟩

theorem witness_WideStoreOnDirectIsRefused :
    (onDirect [] []).cfg.transport = .direct ∧ 256 ≤ (0x0100 : Word).toNat := ⟨rfl, by decide⟩

/-- For RdiOnSerialCompletes, RdhOnSerialCompletes, and the second clause of GettersComplete: both answers. -/
theorem witness_serial_read :
    (handing [0x02, 0x12, 0x34]).cfg.transport = .serial ∧
      SerialReadAnswer (handing [0x02, 0x12, 0x34]) (.bytes [0x02, 0x12, 0x34]) 0x1234 ∧
      SerialReadAnswer (onSerial [] [fails]) .failed 0 :=
  ⟨rfl, .inl ⟨_, rfl, rfl, by decide⟩, .inr ⟨rfl, rfl, rfl⟩⟩

/-- For WrhOnSerialCompletes and the second clause of SettersComplete. -/
theorem witness_serial_write :
    (onSerial [replies .fail] []).cfg.transport = .serial ∧
      (onSerial [replies .fail] []).rtuWriteReply.answer = .returned .fail ∧ (0x0000 : Word) = holdAddr 0 := ⟨rfl, rfl, rfl⟩

/-- The first clause of ConfigUartCompletes. -/
theorem witness_ConfigUartCompletes_direct :
    (onDirect [replies (), replies ()] []).cfg.transport = .direct ∧
      (onDirect [replies (), replies ()] []).blockWriteReply.answer = .returned () ∧
      (secondBlockWrite (onDirect [replies (), replies ()] [])).answer = .returned () := ⟨rfl, rfl, rfl⟩

/-- The second clause of ConfigUartCompletes. -/
theorem witness_ConfigUartCompletes_serial :
    (onSerial [replies .ok, replies .fail] []).cfg.transport = .serial ∧
      (onSerial [replies .ok, replies .fail] []).rtuWriteReply.answer = .returned .ok ∧
      (secondRtuWrite (onSerial [replies .ok, replies .fail] [])).answer = .returned .fail := ⟨rfl, rfl, rfl⟩

/-- One witness for each of its four clauses. -/
theorem witness_ConfigUartStopsAtFault :
    (onDirect [fails] []).blockWriteReply.answer = .failed ∧
      ((onDirect [replies (), fails] []).blockWriteReply.answer = .returned () ∧
        (secondBlockWrite (onDirect [replies (), fails] [])).answer = .failed) ∧
      (onSerial [fails] []).rtuWriteReply.answer = .failed ∧
      ((onSerial [replies .ok, fails] []).rtuWriteReply.answer = .returned .ok ∧
        (secondRtuWrite (onSerial [replies .ok, fails] [])).answer = .failed) := ⟨rfl, ⟨rfl, rfl⟩, rfl, rfl, rfl⟩

/-- For FailedSelectFaults and FailedStoreFaults. -/
theorem witness_failed_block_write :
    (onDirect [fails] []).cfg.transport = .direct ∧ (onDirect [fails] []).blockWriteReply.answer = .failed ∧
      (0x0003 : Word) = holdAddr 3 := ⟨rfl, rfl, rfl⟩

/-- Both alternatives of FailedFetchFaults. -/
theorem witness_FailedFetchFaults :
    ((onDirect [replies ()] [fails]).blockWriteReply.answer = .returned () ∧
        FetchFails (onDirect [replies ()] [fails]) .failed) ∧
      FetchFails (onDirect [replies ()] [replies (.bytes [0x01])]) (.bytes [0x01]) :=
  ⟨⟨rfl, .inl ⟨rfl, rfl⟩⟩, .inr ⟨_, rfl, by decide, rfl⟩⟩

/-- Both clauses of DirectNeverReportsFail; the second, a lawful trace with an outcome. -/
theorem witness_DirectNeverReportsFail :
    (∃ t, exec (.wrh 0x0003 60) (onDirect [replies ()] []) = .next t ∧
      outcomes t.record = outcomes (onDirect [replies ()] []).record ++ [.status .ok]) ∧
      ∃ s : State, Lawful s ∧ s.cfg.transport = .direct ∧ outcomes s.record = [.status .ok] :=
  ⟨⟨_, rfl, by decide⟩,
    { onDirect [] [] with
      record := [.wire (.blockWrite 0x10 3 [0, 60]), .answer .done, .outcome (.status .ok)] },
    by refine ⟨?_, ?_, ?_, ?_, ?_⟩ <;> first | decide | trivial, rfl, rfl⟩

/-- Both alternatives of SerialReadFallsBackToZero; its first hypothesis is SerialReadNeverFaults's. -/
theorem witness_SerialReadFallsBackToZero :
    ((onSerial [] [fails]).cfg.transport = .serial ∧ (onSerial [] [fails]).rtuReadReply.answer = .failed) ∧
      (handing [0x12, 0x34]).rtuReadReply.answer = .returned (.bytes [0x12, 0x34]) ∧
      ([0x12, 0x34] : List Byte).length < 3 := ⟨⟨rfl, rfl⟩, rfl, by decide⟩

theorem witness_RaisingSerialWriteFaults :
    (onSerial [fails] []).cfg.transport = .serial ∧ (onSerial [fails] []).rtuWriteReply.answer = .failed := ⟨rfl, rfl⟩

/-- One witness for each of the six clauses of UnreturnedPrimitiveKeepsPhase. -/
theorem witness_UnreturnedPrimitiveKeepsPhase :
    ((onDirect [waits] []).cfg.transport = .direct ∧ (onDirect [waits] []).blockWriteReply.answer = .pending ∧
        (0x00FF : Word).toNat < 256) ∧
      ((onDirect [replies ()] [waits]).blockWriteReply.answer = .returned () ∧
        (onDirect [replies ()] [waits]).blockReadReply.answer = .pending) ∧
      ((onDirect [replies (), waits] []).blockWriteReply.answer = .returned () ∧
        (secondBlockWrite (onDirect [replies (), waits] [])).answer = .pending) ∧
      ((onSerial [] [waits]).cfg.transport = .serial ∧ (onSerial [] [waits]).rtuReadReply.answer = .pending) ∧
      (onSerial [waits] []).rtuWriteReply.answer = .pending ∧
      ((onSerial [replies .fail, waits] []).rtuWriteReply.answer = .returned .fail ∧
        (secondRtuWrite (onSerial [replies .fail, waits] [])).answer = .pending) :=
  ⟨⟨rfl, rfl, by decide⟩, ⟨rfl, rfl⟩, ⟨rfl, rfl⟩, ⟨rfl, rfl⟩, rfl, rfl, rfl⟩

/-- Both clauses of WaitingRepeatsNothing, and every alternative of the first, CONFIG_UART among them. -/
theorem witness_WaitingRepeatsNothing :
    (StillUnanswered (waitingDirect .dbStore (.uartFirst 2) 1 9600 [waits] []) ∧
      StillUnanswered (waitingDirect .dbFetch .single 6 0 [] [waits]) ∧
      StillUnanswered (waitingSerial .wrh (.uartSecond .fail) 2 2 [waits] []) ∧
      StillUnanswered (waitingSerial .rdi .single 8 0 [] [waits])) ∧
      ∃ t, step (waitingDirect .dbStore (.uartFirst 2) 1 9600 [waits] []) = .next t ∧ t.phase = .dbStore ∧
        t.sequence = .uartFirst 2 :=
  ⟨⟨.inl ⟨.inl rfl, rfl⟩, .inr (.inl ⟨rfl, rfl⟩), .inr (.inr (.inl ⟨rfl, rfl, rfl⟩)),
    .inr (.inr (.inr ⟨rfl, by decide, rfl⟩))⟩, _, rfl, rfl, rfl⟩

/-- One state for each clause of WaitingStoreGoesOn: a lone store, a failure, CONFIG_UART's first store with each answer to
the second, its second store; and an address of the catalog. -/
theorem witness_WaitingStoreGoesOn :
    (waitingDirect .dbStore .single 5 1 [replies ()] []).blockWriteReply.answer = .returned () ∧
      (waitingDirect .dbStore .single 5 1 [fails] []).blockWriteReply.answer = .failed ∧
      ((waitingDirect .dbStore (.uartFirst 2) 1 1 [replies (), replies ()] []).cfg.transport = .direct ∧
        (secondBlockWrite (waitingDirect .dbStore (.uartFirst 2) 1 1 [replies (), replies ()] [])).answer = .returned ()) ∧
      (secondBlockWrite (waitingDirect .dbStore (.uartFirst 2) 1 1 [replies (), fails] [])).answer = .failed ∧
      (secondBlockWrite (waitingDirect .dbStore (.uartFirst 2) 1 1 [replies (), waits] [])).answer = .pending ∧
      (waitingDirect .dbStore (.uartSecond .ok) 2 2 [replies ()] []).sequence = .uartSecond .ok ∧
      (waitingDirect .dbStore .single 5 1 [] []).latch.eff = holdAddr 5 := ⟨rfl, rfl, ⟨rfl, rfl⟩, rfl, rfl, rfl, rfl⟩

/-- One state for each clause of WaitingDirectReadGoesOn. -/
theorem witness_WaitingDirectReadGoesOn :
    (waitingDirect .dbSelect .single 6 0 [fails] []).blockWriteReply.answer = .failed ∧
      ((waitingDirect .dbSelect .single 6 0 [replies ()] [replies (.bytes [1, 2])]).blockWriteReply.answer = .returned () ∧
        (waitingDirect .dbSelect .single 6 0 [replies ()] [replies (.bytes [1, 2])]).blockReadReply.answer =
          .returned (.bytes [1, 2])) ∧
      FetchFails (waitingDirect .dbSelect .single 6 0 [replies ()] [fails]) .failed ∧
      (waitingDirect .dbSelect .single 6 0 [replies ()] [waits]).blockReadReply.answer = .pending ∧
      (waitingDirect .dbSettle .single 6 0 [] [replies (.bytes [1, 2])]).blockReadReply.answer =
        .returned (.bytes [1, 2]) ∧
      FetchFails (waitingDirect .dbFetch .single 6 0 [] [replies (.bytes [])]) (.bytes []) ∧
      ∃ s : State, s.phase = .dbPost ∧ s.sequence = .single ∧ s.latch.rbuf = [1, 2] :=
  ⟨rfl, ⟨rfl, rfl⟩, .inl ⟨rfl, rfl⟩, rfl, rfl, .inr ⟨_, rfl, by decide, rfl⟩,
    { onDirect [] [] with phase := .dbPost, latch := { op := .rdh, addr := 0, wdata := 0, eff := 0, rbuf := [1, 2] } },
    rfl, rfl, rfl⟩

theorem witness_WaitingSerialReadGoesOn :
    (waitingSerial .rdi .single 8 0 [] [replies (.bytes [2, 0, 3])]).sequence = .single ∧
      SerialReadAnswer (waitingSerial .rdi .single 8 0 [] [replies (.bytes [2, 0, 3])]) (.bytes [2, 0, 3]) 3 ∧
      SerialReadAnswer (waitingSerial .rdh .single 8 0 [] [fails]) .failed 0 :=
  ⟨rfl, .inl ⟨_, rfl, rfl, by decide⟩, .inr ⟨rfl, rfl, rfl⟩⟩

/-- One state for each clause of WaitingSerialWriteGoesOn. -/
theorem witness_WaitingSerialWriteGoesOn :
    (waitingSerial .wrh .single 5 1 [replies .fail] []).rtuWriteReply.answer = .returned .fail ∧
      (waitingSerial .wrh .single 5 1 [fails] []).rtuWriteReply.answer = .failed ∧
      ((waitingSerial .wrh (.uartFirst 2) 1 1 [replies .fail, replies .ok] []).cfg.transport = .serial ∧
        (secondRtuWrite (waitingSerial .wrh (.uartFirst 2) 1 1 [replies .fail, replies .ok] [])).answer = .returned .ok) ∧
      (secondRtuWrite (waitingSerial .wrh (.uartFirst 2) 1 1 [replies .ok, fails] [])).answer = .failed ∧
      (secondRtuWrite (waitingSerial .wrh (.uartFirst 2) 1 1 [replies .ok, waits] [])).answer = .pending ∧
      (waitingSerial .wrh (.uartSecond .fail) 2 2 [replies .ok] []).sequence = .uartSecond .fail ∧
      (waitingSerial .wrh .single 5 1 [] []).latch.eff = holdAddr 5 := ⟨rfl, rfl, ⟨rfl, rfl⟩, rfl, rfl, rfl, rfl⟩

/-- CONFIG_UART whose first write waited: its second write follows (43_facade R204). -/
theorem test_waiting_uart_goes_on :
    traceOf (step (waitingSerial .wrh (.uartFirst 2) 1 9600 [replies .fail, replies .ok] [])) =
      [.answer (.status .fail), .wire (.rtuWriteHolding 0x10 0x0002 0x0002), .answer (.status .ok),
        .outcome (.status .fail)] := by decide

/-- ReadsChangeOnlyTheSelector: every hypothesis but the one on SERIAL met together by a device that stays as it is, and
then a read on SERIAL. -/
theorem witness_ReadsChangeOnlyTheSelector :
    (∃ s t : State, exec (.rdi 0xFFFF 0) s = .next t ∧ s.cfg.transport = .direct ∧
      s.blockWriteReply.answer = .returned () ∧ s.blockWriteReply.move.input = none ∧
      s.blockReadReply.move.input = none ∧ s.rtuReadReply.move.input = none ∧ s.nextDrift.input = none ∧
      s.blockWriteReply.move.live = none ∧ s.blockReadReply.move.live = none ∧ s.rtuReadReply.move.live = none ∧
      s.nextDrift.live = none) ∧
      ∃ t, exec (.getPid 0) (handing [2, 0, 3]) = .next t ∧ (handing [2, 0, 3]).cfg.transport = .serial ∧
        (handing [2, 0, 3]).rtuReadReply.move.input = none :=
  ⟨⟨{ bringing 0x12 0x34 with
      env := { (bringing 0x12 0x34).env with
        rtuReads := { queued := [waits], drawn := 0 }, drifts := { queued := [quietDrift], drawn := 0 } } },
    _, rfl, rfl, rfl, rfl, rfl, rfl, rfl, rfl, rfl, rfl, rfl⟩, _, rfl, rfl, rfl⟩

/-- For DirectReadTakesAtLeast250Ms, the delays at their boundaries. -/
theorem witness_DirectReadTakesAtLeast250Ms :
    ∃ t, exec (.rdi 0xFFFF 0) (bringing 0x12 0x34) = .next t ∧ (bringing 0x12 0x34).cfg.transport = .direct ∧
      outcomes t.record = outcomes (bringing 0x12 0x34).record ++ [.value 0x1234] ∧
      (bringing 0x12 0x34).cfg.settleMs = 150 ∧ (bringing 0x12 0x34).cfg.postMs = 100 :=
  ⟨_, rfl, rfl, by decide, rfl, rfl⟩

/-- For WriteTouchesOneRegister, WritePutsOneEventOnTheWire, NoOperationWritesConfiguration,
EventsAreOwnTransportAndDevice, OneOutcomePerOperation, IdleLatchesAreNeverRead: an operation that answers. -/
theorem witness_write_frame : ∃ t, exec (.wrh (holdAddr 5) 0xFFFF) (onDirect [replies ()] []) = .next t := ⟨_, rfl⟩

theorem witness_ConfigUartTouchesTwoRegisters :
    (∃ t, exec (.configUart 0 0xFF 0xFF) (onDirect [replies (), replies ()] []) = .next t) ∧ (3 : Fin Catalog.nHold) ≠ 1 ∧
      (3 : Fin Catalog.nHold) ≠ 2 := ⟨⟨_, rfl⟩, by decide, by decide⟩

theorem witness_SetAddrKeepsLocalIdentity :
    ∃ t u, exec (.setAddr 0x20) (onDirect [replies (), replies ()] [replies (.bytes [0, 0])]) = .next t ∧
      exec (.getPid 0) t = .next u := ⟨_, _, rfl, rfl⟩

/-- Both clauses of SerialOperationsHaveNoDelay, with a lawful state that has a wire event on its trace; its second
state serves the second clause of EventsAreOwnTransportAndDevice as well. -/
theorem witness_SerialOperationsHaveNoDelay :
    (∃ t, (handing []).cfg.transport = .serial ∧ exec (.getFaceNumber 0) (handing []) = .next t) ∧
      ∃ s : State, Lawful s ∧ s.cfg.transport = .serial ∧ wireEvents s.record = [.rtuWriteHolding 0x10 1 9600] :=
  ⟨⟨_, rfl, rfl⟩,
    { onSerial [] [] with
      phase := .srXfer
      latch := { op := .wrh, addr := 1, wdata := 9600, eff := 1, rbuf := [] }
      record := [.wire (.rtuWriteHolding 0x10 1 9600)] },
    by refine ⟨?_, ?_, ?_, ?_, ?_⟩ <;> first | decide | trivial, rfl, rfl⟩

theorem witness_DirectReadsAliasAcrossTheOffset :
    ∃ t, (bringing 0 0).cfg.transport = .direct ∧ exec (.rdi 0xFFFA 0) (bringing 0 0) = .next t ∧
      plusSix 0xFFFA = 0x0000 := ⟨_, rfl, rfl, by decide⟩

/-- Both clauses of RdiReachesItsInputRegister. -/
theorem witness_RdiReachesItsInputRegister :
    (onDirect [replies ()] [replies .contents]).blockReadReply.answer = .returned .contents ∧
      (onSerial [] [replies .contents]).rtuReadReply.answer = .returned .contents := ⟨rfl, rfl⟩

/-- Both clauses of WrittenValueReadsBack. -/
theorem witness_WrittenValueReadsBack :
    (∃ t, exec (.wrh (holdAddr 3) 60) (onDirect [replies (), replies ()] [replies .contents]) = .next t ∧
        (onDirect [replies (), replies ()] [replies .contents]).blockWriteReply.move.uptake = .taken ∧
        (secondBlockWrite (onDirect [replies (), replies ()] [replies .contents])).answer = .returned ()) ∧
      ∃ t, exec (.wrh (holdAddr 3) 60) (onSerial [replies .ok] [replies .contents]) = .next t ∧
        (onSerial [replies .ok] [replies .contents]).rtuWriteReply.answer = .returned .ok ∧
        (onSerial [replies .ok] [replies .contents]).rtuWriteReply.move.uptake = .taken :=
  ⟨⟨_, rfl, rfl, rfl⟩, _, rfl, rfl, rfl⟩

/-- A lawful state with a request to come, and a step that runs it: the hypotheses of EveryStepKeepsRunLawful. -/
theorem witness_EveryStepKeepsRunLawful :
    ∃ s t : State, Lawful s ∧ s.inbox = [.command [0x3FFFFFFFF#34]] ∧ step s = .next t ∧
      t.record = [.outcome (.fault .illegalOp)] :=
  ⟨{ onDirect [] [] with inbox := [.command [0x3FFFFFFFF#34]] }, _,
    by refine ⟨?_, ?_, ?_, ?_, ?_⟩ <;> first | decide | trivial, rfl, rfl, rfl⟩

theorem witness_FreshInstanceIsLawful :
    150 ≤ (Cfg.documented .direct 0).settleMs ∧ 100 ≤ (Cfg.documented .direct 0).postMs := by decide

/-- A lawful state in the middle of a direct-bus read, its block read on the trace. -/
theorem witness_FetchFollowsSelectAndSettle :
    ∃ s : State, Lawful s ∧ s.record = [.wire (.blockWrite 0x10 0 [6]), .answer .done, .wire (.delay 150)] ++
      .wire (.blockRead 0x10 2) :: [] :=
  ⟨{ onDirect [] [] with
      phase := .dbFetch
      record := [.wire (.blockWrite 0x10 0 [6]), .answer .done, .wire (.delay 150), .wire (.blockRead 0x10 2)] },
    by refine ⟨?_, ?_, ?_, ?_, ?_⟩ <;> first | decide | trivial, rfl⟩

/-- A construction is taken, and the configuration changes. -/
theorem witness_OnlyConstructionChangesConfiguration :
    ∃ s t : State, s.inbox = [.construct (Cfg.documented .serial 0x20) default true] ∧ s.cfg.transport = .direct ∧
      step s = .next t ∧ t.cfg = Cfg.documented .serial 0x20 :=
  ⟨{ onDirect [] [] with inbox := [.construct (Cfg.documented .serial 0x20) default true] }, _, rfl, rfl, rfl, rfl⟩

end Sys2Proof.Tests
end

section
/-! PROOFS about the value codec of 20_memory: received bytes as a value. -/

namespace Sys2Proof.Machine

open Sys2Proof.Claims (valueOf)

/-- The model's shift-and-or is the value stated in arithmetic: a word is determined by its number. -/
theorem combine_eq_valueOf (b0 b1 : Byte) : combine b0 b1 = valueOf b0 b1 := by
  rw [valueOf, ← combine_toNat, BitVec.ofNat_toNat, BitVec.setWidth_eq]

theorem combineBytes_pair (b0 b1 : Byte) : combineBytes [b0, b1] = some (valueOf b0 b1) :=
  congrArg some (combine_eq_valueOf b0 b1)

theorem decodeRsp_cons_eq_valueOf (h b0 b1 : Byte) (l : List Byte) :
    decodeRsp (h :: b0 :: b1 :: l) = valueOf b0 b1 :=
  (decodeRsp_cons h b0 b1 l).trans (combine_eq_valueOf b0 b1)

/-- Settles O6: both transports combine by `combine`, whose number is `combine_toNat`. -/
theorem receivedBytesCombineHighFirst : Obligations.ReceivedBytesCombineHighFirst := by
  unfold Obligations.ReceivedBytesCombineHighFirst
  intro b0 b1
  exact ⟨combine_toNat b0 b1, combineBytes_pair b0 b1, fun h l => decodeRsp_cons_eq_valueOf h b0 b1 l⟩

end Sys2Proof.Machine
end

section
/-! PROOFS about the events of 41_direct_bus on the trace: whose they are, and how many a write puts there. -/

namespace Sys2Proof.Machine

open Sys2Proof.Claims (hi lo ownEvent)

/- ### Bytes and traces -/

theorem highByte_eq_hi (v : Word) : highByte v = hi v := by
  rw [hi, ← highByte_toNat, BitVec.ofNat_toNat, BitVec.setWidth_eq]

theorem lowByte_eq_lo (v : Word) : lowByte v = lo v := by
  rw [lo, ← lowByte_toNat, BitVec.ofNat_toNat, BitVec.setWidth_eq]

theorem split_eq_hi_lo (v : Word) : split v = [hi v, lo v] := by
  rw [split, highByte_eq_hi, lowByte_eq_lo]

@[simp] theorem wireEvents_nil : wireEvents [] = [] := rfl
@[simp] theorem wireEvents_wire (e : WireEvent) (l : List Entry) :
    wireEvents (.wire e :: l) = e :: wireEvents l := rfl
@[simp] theorem wireEvents_answer (a : WireAnswer) (l : List Entry) :
    wireEvents (.answer a :: l) = wireEvents l := rfl
@[simp] theorem wireEvents_outcome (r : Result) (l : List Entry) :
    wireEvents (.outcome r :: l) = wireEvents l := rfl

theorem deliver_wireEvents (r : Result) (s : State) : wireEvents (s.deliver r).record = wireEvents s.record := by
  simp [wireEvents_append]

/- ### The wire events of each part of an operation -/

/-- The reply to a store brings no wire event of its own: no delay, no retry (R141). -/
theorem dbStoreReturn_wireEvents (s : State) :
    wireEvents (dbStoreReturn s).after.record = wireEvents s.record := by
  rcases h : s.blockWriteReply.answer with u | _ | _
  · rw [dbStoreReturn_done h]; simp [Progress.after, wireEvents_append]
  · rw [dbStoreReturn_failed h]; simp [Progress.after, wireEvents_append]
  · rw [dbStoreReturn_pending h]; simp [Progress.after]

theorem srWriteReturn_wireEvents (s : State) :
    wireEvents (srWriteReturn s).after.record = wireEvents s.record := by
  rcases h : s.rtuWriteReply.answer with st | _ | _
  · rw [srWriteReturn_status h]; simp [Progress.after, wireEvents_append]
  · rw [srWriteReturn_failed h]; simp [Progress.after, wireEvents_append]
  · rw [srWriteReturn_pending h]; simp [Progress.after]

theorem srReadReturn_wireEvents (s : State) :
    wireEvents (srReadReturn s).after.record = wireEvents s.record := by
  rcases h : s.rtuReadReply.answer with sup | _ | _
  · rw [srReadReturn_bytes h]; simp [Progress.after, readAnswered, wireEvents_append]
  · rw [srReadReturn_failed h]; simp [Progress.after, readAnswered, wireEvents_append]
  · rw [srReadReturn_pending h]; simp [Progress.after, readAnswered]

/-- The reply to a block read brings the post delay when it is two bytes, and no wire event otherwise. -/
theorem dbFetchReturn_wireEvents (s : State) :
    wireEvents (dbFetchReturn s).after.record = wireEvents s.record ∨
      wireEvents (dbFetchReturn s).after.record = wireEvents s.record ++ [.delay s.cfg.postMs] := by
  rcases h : s.blockReadReply.answer with sup | _ | _
  · by_cases hl : (directBytes sup (fetchAnswered s).device s.env.blockReads.drawn).length = 2
    · obtain ⟨b0, b1, hb⟩ := two_bytes hl
      right; rw [dbFetchReturn_two h hb]; simp [Progress.after, fetchAnswered, wireEvents_append]
    · left; rw [dbFetchReturn_length h hl]; simp [Progress.after, fetchAnswered, wireEvents_append]
  · left; rw [dbFetchReturn_failed h]; simp [Progress.after, fetchAnswered, wireEvents_append]
  · left; rw [dbFetchReturn_pending h]; simp [Progress.after, fetchAnswered]

/-- A write puts its one event on the wire, whatever comes back. -/
theorem writeHolding_wireEvents (a v : Word) (s : State) :
    wireEvents (writeHolding a v s).after.record = wireEvents s.record ++
      [if s.cfg.transport = .direct then .blockWrite s.cfg.devAddr (lo a) [hi v, lo v]
        else .rtuWriteHolding s.cfg.devAddr a v] := by
  rcases h : s.cfg.transport
  · rw [writeHolding_direct a v h, dbWrh, dbStoreReturn_wireEvents]
    simp [wireEvents_append, lowByte_eq_lo, split_eq_hi_lo]
  · rw [writeHolding_serial a v h, srWrh, srWriteReturn_wireEvents]
    simp [wireEvents_append]

theorem single_wireEvents (p : Progress) : wireEvents p.single.record = wireEvents p.after.record := by
  cases p with
  | waiting s => rfl
  | ended r s => exact deliver_wireEvents r s

theorem single_cfg (p : Progress) : p.single.cfg = p.after.cfg := by cases p <;> rfl

theorem uartAfterSecond_wireEvents (first : Status) (p : Progress) :
    wireEvents (uartAfterSecond first p).record = wireEvents p.after.record := by
  cases p with
  | waiting s => rfl
  | ended r s => exact deliver_wireEvents _ s

theorem uartAfterSecond_cfg (first : Status) (p : Progress) : (uartAfterSecond first p).cfg = p.after.cfg := by
  cases p <;> rfl

/-- A WRH that answers is the write on the transport in use. -/
theorem exec_wrh_next {s t : State} {a v : Word} (h : exec (.wrh a v) s = .next t) :
    t = (writeHolding a v s).single := by
  simp only [exec, execWrh] at h
  split at h
  · cases h
  · exact (Host.Outcome.next.inj h).symm

/-- Settles O48: neither the reply to a write nor the delivery of its outcome adds a wire event. -/
theorem writePutsOneEventOnTheWire : Obligations.WritePutsOneEventOnTheWire := by
  unfold Obligations.WritePutsOneEventOnTheWire
  intro s t a v h
  rw [exec_wrh_next h, single_wireEvents, writeHolding_wireEvents]

end Sys2Proof.Machine
end

section
/-! PROOFS that an operation puts only the block's own events on the wire (R116, R137, R170, R173). -/

namespace Sys2Proof.Machine

open Sys2Proof.Claims (ownEvent)

/-- From `s` to `t` the configuration stays, and every wire event that was added is the block's own. -/
def AddsOwnEvents (s t : State) : Prop :=
  t.cfg = s.cfg ∧ ∃ l, wireEvents t.record = wireEvents s.record ++ l ∧ ∀ e ∈ l, ownEvent s.cfg e

theorem AddsOwnEvents.of_none {s t : State} (hc : t.cfg = s.cfg) (hr : wireEvents t.record = wireEvents s.record) :
    AddsOwnEvents s t :=
  ⟨hc, [], by rw [hr, List.append_nil], by simp⟩

theorem AddsOwnEvents.of_one {s t : State} {e : WireEvent} (hc : t.cfg = s.cfg)
    (hr : wireEvents t.record = wireEvents s.record ++ [e]) (he : ownEvent s.cfg e) : AddsOwnEvents s t :=
  ⟨hc, [e], hr, by simpa using he⟩

theorem AddsOwnEvents.trans {s t u : State} (h : AddsOwnEvents s t) (k : AddsOwnEvents t u) : AddsOwnEvents s u := by
  obtain ⟨hc, l, hr, hl⟩ := h
  obtain ⟨kc, m, kr, km⟩ := k
  refine ⟨kc.trans hc, l ++ m, by rw [kr, hr, List.append_assoc], fun e he => ?_⟩
  rcases List.mem_append.mp he with h | h
  · exact hl e h
  · exact hc ▸ km e h

theorem dbFetchReturn_addsOwnEvents {s : State} (hd : s.cfg.transport = .direct) :
    AddsOwnEvents s (dbFetchReturn s).after := by
  have hc := (dbFetchReturn_keeps s).1.cfg
  rcases dbFetchReturn_wireEvents s with h | h
  · exact .of_none hc h
  · exact .of_one hc h ⟨hd, .inr rfl⟩

/-- The select, the settle delay and the block read of a direct-bus read whose select completes. -/
theorem fetchIssued_addsOwnEvents (op : Primitive) (a e : Word) {s : State} (hd : s.cfg.transport = .direct) :
    AddsOwnEvents s (fetchIssued op a e s) := by
  refine ⟨rfl, [.blockWrite s.cfg.devAddr (selCmd e) [lowByte e], .delay s.cfg.settleMs, .blockRead s.cfg.devAddr 2],
    by simp [wireEvents_append], ?_⟩
  simp [ownEvent, hd]

theorem dbRead_addsOwnEvents (op : Primitive) (a e : Word) {s : State} (hd : s.cfg.transport = .direct) :
    AddsOwnEvents s (dbRead op a e s).after := by
  have select_own : ownEvent s.cfg (.blockWrite s.cfg.devAddr (selCmd e) [lowByte e]) := ⟨hd, rfl, .inl rfl⟩
  rcases h : s.blockWriteReply.answer with u | _ | _
  · rw [dbRead_done op a e h]
    exact (fetchIssued_addsOwnEvents op a e hd).trans (dbFetchReturn_addsOwnEvents hd)
  · rw [dbRead_failed op a e h]
    exact .of_one rfl (by simp [Progress.after, selectAnswered, wireEvents_append]) select_own
  · rw [dbRead_pending op a e h]
    exact .of_one rfl (by simp [Progress.after, selectAnswered, wireEvents_append]) select_own

theorem readInput_addsOwnEvents (a : Word) (s : State) : AddsOwnEvents s (readInput a s).after := by
  rcases h : s.cfg.transport
  · rw [readInput_direct a h]
    exact dbRead_addsOwnEvents _ _ _ h
  · rw [readInput_serial a h]
    refine .of_one (srRdi_keeps a s).1.cfg ?_ (e := .rtuReadInput s.cfg.devAddr a Catalog.rdCount) ⟨h, rfl, rfl⟩
    simp [srRdi, srReadReturn_wireEvents, wireEvents_append]

theorem readHolding_addsOwnEvents (a : Word) (s : State) : AddsOwnEvents s (readHolding a s).after := by
  rcases h : s.cfg.transport
  · rw [readHolding_direct a h]
    exact dbRead_addsOwnEvents _ _ _ h
  · rw [readHolding_serial a h]
    refine .of_one (srRdh_keeps a s).1.cfg ?_ (e := .rtuReadHolding s.cfg.devAddr a Catalog.rdCount) ⟨h, rfl, rfl⟩
    simp [srRdh, srReadReturn_wireEvents, wireEvents_append]

theorem writeHolding_addsOwnEvents (a v : Word) (s : State) : AddsOwnEvents s (writeHolding a v s).after := by
  refine .of_one (writeHolding_keeps a v s).1.cfg (writeHolding_wireEvents a v s) ?_
  rcases h : s.cfg.transport <;> simp [ownEvent, h]

/-- Delivering or waiting, an operation of one primitive adds no event to the primitive's. -/
theorem AddsOwnEvents.single {s : State} {p : Progress} (h : AddsOwnEvents s p.after) : AddsOwnEvents s p.single :=
  h.trans (.of_none (single_cfg p) (single_wireEvents p))

/-- After the first write of CONFIG_UART only the second write's event can come. -/
theorem uartAfterFirst_addsOwnEvents (packed : Word) (p : Progress) :
    AddsOwnEvents p.after (uartAfterFirst packed p) := by
  cases p with
  | waiting s => exact .of_none rfl rfl
  | ended r s =>
    cases r with
    | value v => exact .of_none rfl (deliver_wireEvents _ s)
    | fault c => exact .of_none rfl (deliver_wireEvents _ s)
    | status first =>
      exact (writeHolding_addsOwnEvents _ packed s).trans
        (.of_none (uartAfterSecond_cfg first _) (uartAfterSecond_wireEvents first _))

theorem exec_addsOwnEvents {i : Instr} {s t : State} (h : exec i s = .next t) : AddsOwnEvents s t := by
  rcases exec_shape h with ⟨a, rfl⟩ | ⟨a, rfl⟩ | ⟨a, v, -, rfl⟩ | ⟨b, p, q, rfl⟩ | rfl
  · exact (readInput_addsOwnEvents a s).single
  · exact (readHolding_addsOwnEvents a s).single
  · exact (writeHolding_addsOwnEvents a v s).single
  · exact (writeHolding_addsOwnEvents _ b s).trans (uartAfterFirst_addsOwnEvents _ _)
  · exact AddsOwnEvents.single (p := s.raiseFault .illegalOp) (.of_none rfl rfl)

/- ### Lawful traces -/

/-- The transport on which a stage occurs, where only one has it. -/
def Stage.transport? : Stage → Option Transport
  | .quiet => none
  | .broken => none
  | .storing _ => some .direct
  | .stored _ => some .direct
  | .storingSecond => some .direct
  | .storedSecond => some .direct
  | .selecting => some .direct
  | .selected => some .direct
  | .settled => some .direct
  | .fetching => some .direct
  | .fetched _ => some .direct
  | .posted _ => some .direct
  | .busFaulted => some .direct
  | .reading => some .serial
  | .hasRead _ => some .serial
  | .writing _ => some .serial
  | .wrote _ _ => some .serial
  | .writingSecond _ => some .serial
  | .wroteSecond _ => some .serial
  | .linkFaulted => some .serial

/-- The stage is one of the block's own transport. The grammar tests the transport of an operation's first event
only; for the later ones it is this invariant that knows it. -/
def StageFits (c : Cfg) (g : Stage) : Prop := ∀ t, g.transport? = some t → c.transport = t

theorem stageFits_broken (c : Cfg) : StageFits c .broken := fun _ h => by cases h

theorem stageFits_quiet (c : Cfg) : StageFits c .quiet := fun _ h => by cases h

theorem StageFits.of {c : Cfg} {g : Stage} {t : Transport} (hg : g.transport? = some t) (hc : c.transport = t) :
    StageFits c g := fun _ h => hc.trans (Option.some.inj (hg.symm.trans h))

/-- An answer breaks the trace or leads to a stage of the same transport. -/
theorem stageOnAnswer_transport (g : Stage) (a : WireAnswer) :
    stageOnAnswer g a = .broken ∨ (stageOnAnswer g a).transport? = g.transport? := by
  cases g with
  | fetching =>
    cases a with
    | bytes l =>
      right
      simp only [stageOnAnswer, stageFromFetching]
      cases combineBytes l <;> rfl
    | failed => exact .inr rfl
    | done => exact .inl rfl
    | status st => exact .inl rfl
  | storing cmd => cases a <;> simp [stageOnAnswer, stageFromBlockWrite, Stage.transport?]
  | storingSecond => cases a <;> simp [stageOnAnswer, stageFromBlockWrite, Stage.transport?]
  | selecting => cases a <;> simp [stageOnAnswer, stageFromBlockWrite, Stage.transport?]
  | reading => cases a <;> simp [stageOnAnswer, stageFromReading, Stage.transport?]
  | writing reg => cases a <;> simp [stageOnAnswer, stageFromWriting, Stage.transport?]
  | writingSecond first => cases a <;> simp [stageOnAnswer, stageFromWriting, Stage.transport?]
  | _ => exact .inl rfl

theorem stageOnAnswer_fits {c : Cfg} {g : Stage} (a : WireAnswer) (hf : StageFits c g) :
    StageFits c (stageOnAnswer g a) := by
  rcases stageOnAnswer_transport g a with h | h
  · rw [h]; exact stageFits_broken c
  · intro t ht; exact hf t (h ▸ ht)

/-- An event that `goesTo` lets pass is judged by its condition alone. -/
theorem goesTo_own {c : Cfg} {w : WireEvent} {ok : Bool} {g : Stage} (h : goesTo ok g ≠ .broken)
    (own : ok = true → ownEvent c w ∧ StageFits c g) : ownEvent c w ∧ StageFits c (goesTo ok g) := by
  obtain ⟨hok, hg⟩ := goesTo_ne h
  rw [hg]
  exact own hok

theorem stageFromQuiet_own {c : Cfg} {w : WireEvent} (h : stageFromQuiet c w ≠ .broken) :
    ownEvent c w ∧ StageFits c (stageFromQuiet c w) := by
  cases w with
  | blockWrite d cmd l =>
    by_cases hl : l.length = 2
    · simp only [stageFromQuiet, if_pos hl] at h ⊢
      refine goesTo_own h fun ok => ?_
      have ⟨hd, ha⟩ : c.transport = .direct ∧ d = c.devAddr := by simpa using ok
      exact ⟨⟨hd, ha, .inr hl⟩, .of rfl hd⟩
    · simp only [stageFromQuiet, if_neg hl] at h ⊢
      refine goesTo_own h fun ok => ?_
      have ⟨⟨hd, ha⟩, hl⟩ : (c.transport = .direct ∧ d = c.devAddr) ∧ l.length = 1 := by simpa using ok
      exact ⟨⟨hd, ha, .inl hl⟩, .of rfl hd⟩
  | blockRead d n => exact absurd rfl h
  | delay ms => exact absurd rfl h
  | rtuWriteHolding d reg v =>
    refine goesTo_own h fun ok => ?_
    have ⟨hs, ha⟩ : c.transport = .serial ∧ d = c.devAddr := by simpa using ok
    exact ⟨⟨hs, ha⟩, .of rfl hs⟩
  | rtuReadHolding d reg n =>
    refine goesTo_own h fun ok => ?_
    have ⟨⟨hs, ha⟩, hn⟩ : (c.transport = .serial ∧ d = c.devAddr) ∧ n = 1 := by simpa using ok
    exact ⟨⟨hs, ha, hn⟩, .of rfl hs⟩
  | rtuReadInput d reg n =>
    refine goesTo_own h fun ok => ?_
    have ⟨⟨hs, ha⟩, hn⟩ : (c.transport = .serial ∧ d = c.devAddr) ∧ n = 1 := by simpa using ok
    exact ⟨⟨hs, ha, hn⟩, .of rfl hs⟩

theorem stageFromStored_own {c : Cfg} {cmd : Byte} {w : WireEvent} (hd : c.transport = .direct)
    (h : stageFromStored c cmd w ≠ .broken) : ownEvent c w ∧ StageFits c (stageFromStored c cmd w) := by
  cases w with
  | blockWrite d cmd2 l =>
    refine goesTo_own h fun ok => ?_
    have ⟨⟨_, ha⟩, hl⟩ : ((cmd = 1 ∧ cmd2 = 2) ∧ d = c.devAddr) ∧ l.length = 2 := by simpa using ok
    exact ⟨⟨hd, ha, .inr hl⟩, .of rfl hd⟩
  | _ => exact absurd rfl h

theorem stageFromWrote_own {c : Cfg} {reg : Word} {st : Status} {w : WireEvent} (hs : c.transport = .serial)
    (h : stageFromWrote c reg st w ≠ .broken) : ownEvent c w ∧ StageFits c (stageFromWrote c reg st w) := by
  cases w with
  | rtuWriteHolding d reg2 v =>
    refine goesTo_own h fun ok => ?_
    have ⟨_, ha⟩ : (reg = 1 ∧ reg2 = 2) ∧ d = c.devAddr := by simpa using ok
    exact ⟨⟨hs, ha⟩, .of rfl hs⟩
  | _ => exact absurd rfl h

/-- An event that does not break the trace is the block's own and leads to a stage of its transport. -/
theorem stageOnWire_own {c : Cfg} {g : Stage} {w : WireEvent} (hf : StageFits c g)
    (h : stageOnWire c g w ≠ .broken) : ownEvent c w ∧ StageFits c (stageOnWire c g w) := by
  cases g with
  | quiet => exact stageFromQuiet_own h
  | stored cmd => exact stageFromStored_own (hf _ rfl) h
  | selected =>
    have hd : c.transport = .direct := hf _ rfl
    refine goesTo_own h fun ok => ⟨?_, .of rfl hd⟩
    rw [of_decide_eq_true ok]
    exact ⟨hd, .inl rfl⟩
  | settled =>
    have hd : c.transport = .direct := hf _ rfl
    refine goesTo_own h fun ok => ⟨?_, .of rfl hd⟩
    rw [of_decide_eq_true ok]
    exact ⟨hd, rfl, rfl⟩
  | fetched v =>
    have hd : c.transport = .direct := hf _ rfl
    refine goesTo_own h fun ok => ⟨?_, .of rfl hd⟩
    rw [of_decide_eq_true ok]
    exact ⟨hd, .inr rfl⟩
  | wrote reg st => exact stageFromWrote_own (hf _ rfl) h
  | _ => exact absurd rfl h

theorem stageNext_fits {c : Cfg} {g : Stage} {e : Entry} (hf : StageFits c g) (h : stageNext c g e ≠ .broken) :
    StageFits c (stageNext c g e) := by
  cases e with
  | wire w => exact (stageOnWire_own hf h).2
  | answer a => exact stageOnAnswer_fits a hf
  | outcome r => rw [stageNext, (goesTo_ne h).2]; exact stageFits_quiet c

/-- Induction over the trace, from any stage of the block's transport. -/
theorem ownEvent_of_foldl_ne_broken {c : Cfg} {l : List Entry} {g : Stage} (hf : StageFits c g)
    (h : l.foldl (stageNext c) g ≠ .broken) : ∀ w ∈ wireEvents l, ownEvent c w := by
  induction l generalizing g with
  | nil => simp [wireEvents]
  | cons e l ih =>
    rw [List.foldl_cons] at h
    have hne : stageNext c g e ≠ .broken := fun hb => h (by rw [hb, foldl_broken])
    have later : ∀ w ∈ wireEvents l, ownEvent c w := ih (stageNext_fits hf hne) h
    cases e with
    | wire w => exact List.forall_mem_cons.mpr ⟨(stageOnWire_own hf hne).1, later⟩
    | answer a => exact later
    | outcome r => exact later

theorem ownEvent_of_lawful {s : State} (h : Lawful s) : ∀ e ∈ wireEvents s.record, ownEvent s.cfg e := by
  obtain ⟨htrace, hne, -⟩ := h
  exact ownEvent_of_foldl_ne_broken (stageFits_quiet s.cfg) (htrace ▸ hne : traceStage s.cfg s.record ≠ .broken)

/-- Settles O47: operation by operation for what one adds in its step, and by the grammar of the trace for a whole
lawful run. -/
theorem eventsAreOwnTransportAndDevice : Obligations.EventsAreOwnTransportAndDevice := by
  unfold Obligations.EventsAreOwnTransportAndDevice
  exact ⟨fun i s t h => exec_addsOwnEvents h, fun s h => ownEvent_of_lawful h⟩

end Sys2Proof.Machine
end

section
/-! PROOFS about 42_framed_serial: its operations perform no delay (R171), and its response decoder (R165). -/

namespace Sys2Proof.Machine

open Sys2Proof.Claims (ownEvent valueOf)

/- ### Delays on the trace -/

@[simp] theorem wireEvents_map_wire (ws : List WireEvent) : wireEvents (ws.map .wire) = ws := by
  induction ws with
  | nil => rfl
  | cons w ws ih => rw [List.map_cons, wireEvents_wire, ih]

/-- The time a trace takes grows by that of the wire events it gains; answers and outcomes take none. -/
theorem delayMs_of_wireEvents {l m : List Entry} {ws : List WireEvent} (h : wireEvents l = wireEvents m ++ ws) :
    delayMs l = delayMs m + delayMs (ws.map .wire) := by
  simp [delayMs, h]

theorem delayMs_eq_zero {l : List Entry} (h : ∀ ms, .delay ms ∉ wireEvents l) : delayMs l = 0 := by
  refine List.sum_eq_zero fun n hn => ?_
  obtain ⟨e, he, rfl⟩ := List.mem_map.mp hn
  cases e with
  | delay ms => exact absurd he (h ms)
  | _ => rfl

/-- A delay is an event of the direct bus alone. -/
theorem not_ownEvent_delay {c : Cfg} (hs : c.transport = .serial) (ms : Nat) : ¬ ownEvent c (.delay ms) := by
  simp [ownEvent, hs]

/-- A block on the serial transport spends no delay on events that are its own. -/
theorem delayMs_eq_zero_of_own {c : Cfg} {l : List Entry} (hs : c.transport = .serial)
    (own : ∀ e ∈ wireEvents l, ownEvent c e) : delayMs l = 0 :=
  delayMs_eq_zero fun ms h => not_ownEvent_delay hs ms (own _ h)

theorem AddsOwnEvents.delayMs_eq {s t : State} (h : AddsOwnEvents s t) (hs : s.cfg.transport = .serial) :
    delayMs t.record = delayMs s.record := by
  obtain ⟨-, ws, added, own⟩ := h
  have none_added : delayMs (ws.map .wire) = 0 := delayMs_eq_zero_of_own hs (by simpa using own)
  rw [delayMs_of_wireEvents added, none_added, Nat.add_zero]

/-- Settles O49: the events an operation adds, and all those of a lawful run, are the block's own (O47), and on the
serial transport no delay is. -/
theorem serialOperationsHaveNoDelay : Obligations.SerialOperationsHaveNoDelay := by
  unfold Obligations.SerialOperationsHaveNoDelay
  exact ⟨fun i s t hs h => (exec_addsOwnEvents h).delayMs_eq hs,
    fun s h hs => delayMs_eq_zero_of_own hs (ownEvent_of_lawful h)⟩

/- ### The response decoder -/

theorem decodeRsp_long {l : List Byte} (h1 : 1 < l.length) (h2 : 2 < l.length) :
    decodeRsp l = valueOf l[1] l[2] := by
  match l, h2 with
  | h :: b0 :: b1 :: l, _ => exact decodeRsp_cons_eq_valueOf h b0 b1 l

/-- Settles O8: the two branches of the decoder, split at length 3. -/
theorem responseDecoderRule : Obligations.ResponseDecoderRule := by
  unfold Obligations.ResponseDecoderRule
  exact fun rsp => ⟨decodeRsp_short, decodeRsp_long⟩

end Sys2Proof.Machine
end

section
/-! PROOFS about 30_encoding and 20_memory section 2: command words, their decoder and encoder, response words, and the
two bytes of a value. -/

namespace Sys2Proof.Machine

open Sys2Proof.Claims (valueOf)

/- ### The fields of a command word -/

@[simp] theorem cwOp_commandWord (op : BitVec 2) (a d : Word) : cwOp (commandWord op a d) = op := by
  rw [cwOp, commandWord, BitVec.extractLsb'_append_eq_of_le (by decide)]
  exact BitVec.extractLsb'_append_eq_left

@[simp] theorem cwAddr_commandWord (op : BitVec 2) (a d : Word) : cwAddr (commandWord op a d) = a := by
  rw [cwAddr, commandWord, BitVec.extractLsb'_append_eq_of_le (by decide)]
  exact BitVec.extractLsb'_append_eq_right

@[simp] theorem cwData_commandWord (op : BitVec 2) (a d : Word) : cwData (commandWord op a d) = d :=
  BitVec.extractLsb'_append_eq_right

/-- A command word is its three fields and nothing more (R80). -/
theorem commandWord_fields (w : CommandWord) : commandWord (cwOp w) (cwAddr w) (cwData w) = w := by
  have high : cwOp w ++ cwAddr w = w.extractLsb' 16 18 := BitVec.extractLsb'_append_extractLsb'_eq_extractLsb' rfl
  rw [commandWord, high]
  exact BitVec.extractLsb'_append_extractLsb'

/- ### The decoder, by operation code -/

theorem decodeWord_read (a d : Word) : decodeWord (commandWord 0b00 a d) = decodeRdi a d := by simp [decodeWord]
theorem decodeWord_rdh (a d : Word) : decodeWord (commandWord 0b01 a d) = .rdh a d := by simp [decodeWord]
theorem decodeWord_write (a d : Word) : decodeWord (commandWord 0b10 a d) = decodeWrh a d := by simp [decodeWord]
theorem decodeWord_reserved (a d : Word) : decodeWord (commandWord 0b11 a d) = .reserved a d := by simp [decodeWord]

theorem decodeRdi_plain {a : Word} (h : getterAddress a = false) (x : Word) : decodeRdi a x = .rdi a x := by
  simp only [getterAddress, Bool.or_eq_false_iff, decide_eq_false_iff_not] at h
  simp [decodeRdi, h]

theorem decodeWrh_plain {a : Word} (h : setterAddress a = false) (v : Word) : decodeWrh a v = .wrh a v := by
  simp only [setterAddress, Bool.or_eq_false_iff, decide_eq_false_iff_not] at h
  simp [decodeWrh, h]

/-- What the words of CONFIG_UART decode to, as one request (R90, R204). -/
theorem decode_uartPair (b w : Word) :
    decode [commandWord 0b10 Catalog.baudRate b, commandWord 0b10 Catalog.parityStop w] =
      .ok (.configUart b (highByte w) (lowByte w)) := by
  simp [decode, isUartPair]

/- ### Splitting and combining -/

theorem combine_split (v : Word) : combine (highByte v) (lowByte v) = v := by
  rw [← BitVec.toNat_inj, combine_toNat, highByte_toNat, lowByte_toNat]
  exact Nat.div_add_mod' v.toNat 256

@[simp] theorem highByte_combine (b0 b1 : Byte) : highByte (combine b0 b1) = b0 := by
  rw [combine_eq_append]
  exact BitVec.extractLsb'_append_eq_left

@[simp] theorem lowByte_combine (b0 b1 : Byte) : lowByte (combine b0 b1) = b1 := by
  rw [combine_eq_append]
  exact BitVec.extractLsb'_append_eq_right

/-- Settles O7: each half of a combined word is the byte it came from, and a word is its two halves. -/
theorem splitAndCombineAreInverse : Obligations.SplitAndCombineAreInverse := by
  unfold Obligations.SplitAndCombineAreInverse
  refine ⟨fun v => congrArg some (combine_split v), fun b0 b1 => ?_⟩
  rw [split, highByte_combine, lowByte_combine]

/- ### Decoding and encoding -/

/-- Settles O1: the fields of the encoded words are the operands, and a well-formed RDI or WRH is at no
facade operation's address. -/
theorem decodeOfEncodeIsIdentity : Obligations.DecodeOfEncodeIsIdentity := by
  unfold Obligations.DecodeOfEncodeIsIdentity
  intro i wf
  cases i with
  | rdi a x =>
    have plain : getterAddress a = false := by simpa [Instr.wellFormed] using wf
    exact congrArg Except.ok ((decodeWord_read a x).trans (decodeRdi_plain plain x))
  | wrh a v =>
    have plain : setterAddress a = false := by simpa [Instr.wellFormed] using wf
    exact congrArg Except.ok ((decodeWord_write a v).trans (decodeWrh_plain plain v))
  | rdh a x => exact congrArg Except.ok (decodeWord_rdh a x)
  | reserved a x => exact congrArg Except.ok (decodeWord_reserved a x)
  | configUart b p q =>
    rw [encode, decode_uartPair, packUart_eq_combine, highByte_combine, lowByte_combine]
  | setAddr v => exact congrArg Except.ok (decodeWord_write _ v)
  | setFaceDetectThres v => exact congrArg Except.ok (decodeWord_write _ v)
  | setFaceScoreThres v => exact congrArg Except.ok (decodeWord_write _ v)
  | setGestureScoreThres v => exact congrArg Except.ok (decodeWord_write _ v)
  | getPid x => exact congrArg Except.ok (decodeWord_read _ x)
  | getVid x => exact congrArg Except.ok (decodeWord_read _ x)
  | getFaceNumber x => exact congrArg Except.ok (decodeWord_read _ x)
  | getFaceX x => exact congrArg Except.ok (decodeWord_read _ x)
  | getFaceY x => exact congrArg Except.ok (decodeWord_read _ x)
  | getFaceScore x => exact congrArg Except.ok (decodeWord_read _ x)
  | getGestureType x => exact congrArg Except.ok (decodeWord_read _ x)
  | getGestureScore x => exact congrArg Except.ok (decodeWord_read _ x)

/-- A read word decodes to an operation in canonical form whose encoding it is. -/
theorem encode_decodeRdi (a x : Word) :
    encode (decodeRdi a x) = [commandWord 0b00 a x] ∧ (decodeRdi a x).wellFormed = true := by
  by_cases h : getterAddress a = true
  · simp only [getterAddress, Bool.or_eq_true, decide_eq_true_iff] at h
    rcases h with ((((((rfl | rfl) | rfl) | rfl) | rfl) | rfl) | rfl) | rfl <;> exact ⟨rfl, rfl⟩
  · rw [Bool.not_eq_true] at h
    rw [decodeRdi_plain h]
    exact ⟨rfl, by simp [Instr.wellFormed, h]⟩

theorem encode_decodeWrh (a v : Word) :
    encode (decodeWrh a v) = [commandWord 0b10 a v] ∧ (decodeWrh a v).wellFormed = true := by
  by_cases h : setterAddress a = true
  · simp only [setterAddress, Bool.or_eq_true, decide_eq_true_iff] at h
    rcases h with ((rfl | rfl) | rfl) | rfl <;> exact ⟨rfl, rfl⟩
  · rw [Bool.not_eq_true] at h
    rw [decodeWrh_plain h]
    exact ⟨rfl, by simp [Instr.wellFormed, h]⟩

/-- One word, by its operation code. -/
theorem encode_decodeWord (w : CommandWord) : encode (decodeWord w) = [w] ∧ (decodeWord w).wellFormed = true := by
  rw [← commandWord_fields w]
  rcases (by decide : ∀ op : BitVec 2, op = 0b00 ∨ op = 0b01 ∨ op = 0b10 ∨ op = 0b11) (cwOp w) with h | h | h | h <;>
    rw [h]
  · rw [decodeWord_read]; exact encode_decodeRdi _ _
  · rw [decodeWord_rdh]; exact ⟨rfl, rfl⟩
  · rw [decodeWord_write]; exact encode_decodeWrh _ _
  · rw [decodeWord_reserved]; exact ⟨rfl, rfl⟩

/-- Two words that are CONFIG_UART's are the encoding of what they decode to. -/
theorem encode_configUart_of_isUartPair {w0 w1 : CommandWord} (h : isUartPair w0 w1 = true) :
    encode (.configUart (cwData w0) (highByte (cwData w1)) (lowByte (cwData w1))) = [w0, w1] := by
  simp only [isUartPair, Bool.and_eq_true, decide_eq_true_iff] at h
  obtain ⟨⟨⟨op0, addr0⟩, op1⟩, addr1⟩ := h
  have first := commandWord_fields w0
  have second := commandWord_fields w1
  rw [op0, addr0] at first
  rw [op1, addr1] at second
  rw [encode, packUart_eq_combine, combine_split, first, second]

/-- Settles O2: by the number of words, the two of CONFIG_UART being the one pair that is accepted. -/
theorem encodeOfDecodeIsIdentity : Obligations.EncodeOfDecodeIsIdentity := by
  unfold Obligations.EncodeOfDecodeIsIdentity
  intro ws i h
  match ws, h with
  | [w], h =>
    obtain rfl : decodeWord w = i := Except.ok.inj h
    exact encode_decodeWord w
  | [w0, w1], h =>
    by_cases hp : isUartPair w0 w1 = true
    · rw [decode, if_pos hp] at h
      obtain rfl := Except.ok.inj h
      exact ⟨encode_configUart_of_isUartPair hp, rfl⟩
    · rw [decode, if_neg hp] at h
      cases h

/-- Settles O3: the decoder evaluated on the words of 95_test_vectors. -/
theorem sampleWordsDecode : Obligations.SampleWordsDecode := by
  unfold Obligations.SampleWordsDecode
  decide

/-- Settles O4: either address of CONFIG_UART is no setter's. -/
theorem uartWordsAloneAreOrdinaryWrites : Obligations.UartWordsAloneAreOrdinaryWrites := by
  unfold Obligations.UartWordsAloneAreOrdinaryWrites
  intro b p q w0 w1 h
  obtain ⟨rfl, rfl⟩ : commandWord 0b10 Catalog.baudRate b = w0 ∧
      commandWord 0b10 Catalog.parityStop (packUart p q) = w1 := by simpa [encode] using h
  refine ⟨congrArg Except.ok (decodeWord_write _ _), ?_, decodeOfEncodeIsIdentity (.configUart b p q) rfl⟩
  rw [← combine_eq_valueOf]
  exact congrArg Except.ok (decodeWord_write _ _)

/- ### Response words -/

theorem readResponse_toWord (r : Result) : readResponse r.toWord = some r := by
  have kind : r.toWord.extractLsb' 16 2 = r.kind := BitVec.extractLsb'_append_eq_left
  have payload : r.toWord.extractLsb' 0 16 = r.payload := BitVec.extractLsb'_append_eq_right
  unfold readResponse
  rw [kind, payload]
  rcases r with v | (_ | _) | (_ | _ | _) <;> rfl

/-- A word that reads as an outcome has that outcome's kind and payload. -/
theorem kind_payload_of_readResponse {w : ResponseWord} {r : Result} (h : readResponse w = some r) :
    r.kind = w.extractLsb' 16 2 ∧ r.payload = w.extractLsb' 0 16 := by
  simp only [readResponse] at h
  split_ifs at h <;> obtain rfl := Option.some.inj h <;> refine ⟨Eq.symm ‹_›, ?_⟩
  · rfl
  all_goals exact Eq.symm ‹_›

theorem toWord_of_readResponse {w : ResponseWord} {r : Result} (h : readResponse w = some r) : r.toWord = w := by
  obtain ⟨kind, payload⟩ := kind_payload_of_readResponse h
  rw [Result.toWord, kind, payload]
  exact BitVec.extractLsb'_append_extractLsb'

theorem toWord_value_toNat (v : Word) : (Result.value v).toWord.toNat = v.toNat := by
  rw [show (Result.value v).toWord = 0#2 ++ v from rfl, BitVec.toNat_append]
  simp

/-- Settles O5: the kind and payload of each outcome, read back field by field. -/
theorem responseWordsAreAsLaidOut : Obligations.ResponseWordsAreAsLaidOut := by
  unfold Obligations.ResponseWordsAreAsLaidOut
  exact ⟨toWord_value_toNat, rfl, rfl, rfl, rfl, rfl, readResponse_toWord, fun _ _ => toWord_of_readResponse⟩

end Sys2Proof.Machine
end

section
/-! PROOFS about a primitive operation on its way: what it puts on the trace from the issue of its event to its end, and
that an operation is its primitive going on from there. -/

namespace Sys2Proof.Machine

open Sys2Proof.Claims (Delivers Waits)

/- ### How far an operation has come -/

/-- From `s` to `t` an operation has come to phase `ph` with `es` on the trace, and has kept what `Keeps` names. -/
structure Comes (s t : State) (ph : Phase) (es : List Entry) : Prop where
  keeps  : Keeps s t
  phase  : t.phase = ph
  record : t.record = s.record ++ es

theorem Comes.of {s t : State} {ph : Phase} {es : List Entry} (cfg : t.cfg = s.cfg) (link : t.link = s.link)
    (inbox : t.inbox = s.inbox) (sequence : t.sequence = s.sequence) (response : t.response = s.response)
    (phase : t.phase = ph) (record : t.record = s.record ++ es) : Comes s t ph es :=
  ⟨⟨cfg, link, inbox, sequence, response, ⟨es, record.symm⟩⟩, phase, record⟩

theorem Comes.trans {s t u : State} {ph ph' : Phase} {es fs : List Entry} (h : Comes s t ph es)
    (k : Comes t u ph' fs) : Comes s u ph' (es ++ fs) :=
  ⟨h.keeps.trans k.keeps, k.phase, by rw [k.record, h.record, List.append_assoc]⟩

/-- The answer comes and the operation ends. -/
theorem Comes.closed {s t : State} {ph : Phase} {es : List Entry} (h : Comes s t ph es) (a : WireAnswer) :
    Comes s (t.note a).toIdle .idle (es ++ [.answer a]) :=
  h.trans (.of rfl rfl rfl rfl rfl rfl rfl)

theorem deviceRuns_comes (s : State) : Comes s s.deviceRuns s.phase [] :=
  .of rfl rfl rfl rfl rfl rfl (List.append_nil _).symm
theorem drewBlockWrite_comes (d : Device) (s : State) : Comes s (s.drewBlockWrite.withDevice d) s.phase [] :=
  .of rfl rfl rfl rfl rfl rfl (List.append_nil _).symm
theorem drewRtuWrite_comes (d : Device) (s : State) : Comes s (s.drewRtuWrite.withDevice d) s.phase [] :=
  .of rfl rfl rfl rfl rfl rfl (List.append_nil _).symm
theorem selectAnswered_comes (c : Bool) (s : State) : Comes s (selectAnswered c s) s.phase [] :=
  drewBlockWrite_comes _ s
theorem fetchAnswered_comes (s : State) : Comes s (fetchAnswered s) s.phase [] :=
  .of rfl rfl rfl rfl rfl rfl (List.append_nil _).symm
theorem readAnswered_comes (s : State) : Comes s (readAnswered s) s.phase [] :=
  .of rfl rfl rfl rfl rfl rfl (List.append_nil _).symm

theorem Comes.delivers {s t : State} {es : List Entry} (h : Comes s t .idle es) (r : Result) :
    Delivers s (t.deliver r) es r :=
  ⟨by rw [deliver_record, h.record], rfl, h.phase, rfl, h.keeps.cfg, h.keeps.link, h.keeps.inbox⟩

theorem Comes.waits {s t : State} {ph : Phase} {es : List Entry} (h : Comes s t ph es) (q : Sequence) :
    Waits s (t.withSequence q) ph q es :=
  ⟨h.record, h.keeps.response, h.phase, rfl, h.keeps.cfg, h.keeps.link, h.keeps.inbox⟩

/- ### What the reply to a wire event can lead to -/

/-- A primitive operation that has not been answered stays where it is, its latches with it. -/
def Unanswered (s : State) (p : Progress) : Prop := ∃ t, p = .waiting t ∧ Comes s t s.phase [] ∧ t.latch = s.latch

/-- A primitive operation has ended with `r`, and `es` is what it has added to the trace. -/
def Ends (s : State) (p : Progress) (es : List Entry) (r : Result) : Prop := ∃ t, p = .ended r t ∧ Comes s t .idle es

theorem Ends.after {s u : State} {p : Progress} {ph : Phase} {es fs : List Entry} {r : Result} (c : Comes s u ph es)
    (h : Ends u p fs r) : Ends s p (es ++ fs) r := by
  obtain ⟨t, hp, k⟩ := h
  exact ⟨t, hp, c.trans k⟩

theorem dbStoreReturn_unanswered {s : State} (h : s.blockWriteReply.answer = .pending) :
    Unanswered s (dbStoreReturn s) := ⟨_, dbStoreReturn_pending h, drewBlockWrite_comes _ s, rfl⟩
theorem dbSelectReturn_unanswered {s : State} (h : s.blockWriteReply.answer = .pending) :
    Unanswered s (dbSelectReturn s) := ⟨_, dbSelectReturn_pending h, selectAnswered_comes _ s, rfl⟩
theorem dbFetchReturn_unanswered {s : State} (h : s.blockReadReply.answer = .pending) :
    Unanswered s (dbFetchReturn s) := ⟨_, dbFetchReturn_pending h, fetchAnswered_comes s, rfl⟩
theorem srWriteReturn_unanswered {s : State} (h : s.rtuWriteReply.answer = .pending) :
    Unanswered s (srWriteReturn s) := ⟨_, srWriteReturn_pending h, drewRtuWrite_comes _ s, rfl⟩
theorem srReadReturn_unanswered {s : State} (h : s.rtuReadReply.answer = .pending) :
    Unanswered s (srReadReturn s) := ⟨_, srReadReturn_pending h, readAnswered_comes s, rfl⟩

theorem dbStoreReturn_cases (s : State) :
    Ends s (dbStoreReturn s) [.answer .done] (.status .ok) ∨
      Ends s (dbStoreReturn s) [.answer .failed] (.fault .busFault) ∨ Unanswered s (dbStoreReturn s) := by
  rcases h : s.blockWriteReply.answer with u | _ | _
  · exact .inl ⟨_, dbStoreReturn_done h, (drewBlockWrite_comes _ s).closed .done⟩
  · exact .inr (.inl ⟨_, dbStoreReturn_failed h, (drewBlockWrite_comes _ s).closed .failed⟩)
  · exact .inr (.inr (dbStoreReturn_unanswered h))

theorem srWriteReturn_cases (s : State) :
    (∃ st, Ends s (srWriteReturn s) [.answer (.status st)] (.status st)) ∨
      Ends s (srWriteReturn s) [.answer .failed] (.fault .linkFault) ∨ Unanswered s (srWriteReturn s) := by
  rcases h : s.rtuWriteReply.answer with st | _ | _
  · exact .inl ⟨st, _, srWriteReturn_status h, (drewRtuWrite_comes _ s).closed (.status st)⟩
  · exact .inr (.inl ⟨_, srWriteReturn_failed h, (drewRtuWrite_comes _ s).closed .failed⟩)
  · exact .inr (.inr (srWriteReturn_unanswered h))

theorem srReadReturn_cases (s : State) :
    (∃ l, Ends s (srReadReturn s) [.answer (.bytes l)] (.value (decodeRsp l))) ∨
      Ends s (srReadReturn s) [.answer .failed] (.value 0) ∨ Unanswered s (srReadReturn s) := by
  rcases h : s.rtuReadReply.answer with sup | _ | _
  · exact .inl ⟨_, _, srReadReturn_bytes h, (readAnswered_comes s).trans (.of rfl rfl rfl rfl rfl rfl rfl)⟩
  · exact .inr (.inl ⟨_, srReadReturn_failed h, (readAnswered_comes s).closed .failed⟩)
  · exact .inr (.inr (srReadReturn_unanswered h))

/-- A block read fails with an error, or with a number of bytes that is no value's (D10). -/
def badFetch : WireAnswer → Prop
  | .failed => True
  | .bytes l => l.length ≠ 2
  | .done => False
  | .status _ => False

theorem dbFetchReturn_cases (s : State) :
    (∃ b0 b1, Ends s (dbFetchReturn s) [.answer (.bytes [b0, b1]), .wire (.delay s.cfg.postMs)]
        (.value (combine b0 b1))) ∨
      (∃ a, badFetch a ∧ Ends s (dbFetchReturn s) [.answer a] (.fault .busFault)) ∨
      Unanswered s (dbFetchReturn s) := by
  rcases h : s.blockReadReply.answer with sup | _ | _
  · by_cases hl : (directBytes sup (fetchAnswered s).device s.env.blockReads.drawn).length = 2
    · obtain ⟨b0, b1, hb⟩ := two_bytes hl
      exact .inl ⟨b0, b1, _, dbFetchReturn_two h hb,
        (fetchAnswered_comes s).trans (.of rfl rfl rfl rfl rfl rfl (by simp))⟩
    · exact .inr (.inl ⟨.bytes _, hl, _, dbFetchReturn_length h hl,
        (fetchAnswered_comes s).trans (.of rfl rfl rfl rfl rfl rfl rfl)⟩)
  · exact .inr (.inl ⟨.failed, trivial, _, dbFetchReturn_failed h, (fetchAnswered_comes s).closed .failed⟩)
  · exact .inr (.inr (dbFetchReturn_unanswered h))

/-- The settle delay has passed and the block read is out. -/
def fetchStarted (s : State) : State :=
  ((s.issue (.delay s.cfg.settleMs)).enter .dbFetch).issue (.blockRead s.cfg.devAddr Catalog.rdLen)

theorem fetchStarted_comes (s : State) :
    Comes s (fetchStarted s) .dbFetch [.wire (.delay s.cfg.settleMs), .wire (.blockRead s.cfg.devAddr 2)] :=
  .of rfl rfl rfl rfl rfl rfl (List.append_assoc _ [_] [_])

theorem dbSettle_eq (s : State) : dbSettle s = dbFetchReturn (fetchStarted s) := rfl

/-- The select has completed and the phase of the settle delay is entered. -/
def settleStarted (s : State) : State := ((selectAnswered true s).note .done).enter .dbSettle

theorem settleStarted_comes (s : State) : Comes s (settleStarted s) .dbSettle [.answer .done] :=
  (selectAnswered_comes true s).trans (.of rfl rfl rfl rfl rfl rfl rfl)

theorem dbSelectReturn_cases (s : State) :
    dbSelectReturn s = dbSettle (settleStarted s) ∨
      Ends s (dbSelectReturn s) [.answer .failed] (.fault .busFault) ∨ Unanswered s (dbSelectReturn s) := by
  rcases h : s.blockWriteReply.answer with u | _ | _
  · exact .inl (dbSelectReturn_done h)
  · exact .inr (.inl ⟨_, dbSelectReturn_failed h, (selectAnswered_comes _ s).closed .failed⟩)
  · exact .inr (.inr (dbSelectReturn_unanswered h))

theorem dbPost_value {s : State} {v : Word} (h : combineBytes s.latch.rbuf = some v) :
    dbPost s = .ended (.value v) (s.issue (.delay s.cfg.postMs)).deviceRuns.toIdle := by
  simp only [dbPost, h, State.finish]

theorem dbPost_none {s : State} (h : combineBytes s.latch.rbuf = none) :
    dbPost s = .ended (.fault .busFault) (s.issue (.delay s.cfg.postMs)).deviceRuns.toIdle := by
  simp only [dbPost, h, State.raiseFault]

theorem posted_comes (s : State) :
    Comes s (s.issue (.delay s.cfg.postMs)).deviceRuns.toIdle .idle [.wire (.delay s.cfg.postMs)] :=
  .of rfl rfl rfl rfl rfl rfl rfl

/- ### An operation starts by issuing its event, and goes on from there -/

/-- The select write of a direct-bus read is out. -/
def selectStarted (op : Primitive) (addr eff : Word) (s : State) : State :=
  ((s.latched op addr eff).enter .dbSelect).issue (.blockWrite s.cfg.devAddr (selCmd eff) [lowByte eff])

/-- A direct-bus store is out. -/
def storeStarted (addr v : Word) (s : State) : State :=
  (((s.latched .wrh addr addr).latchedData v).enter .dbStore).issue
    (.blockWrite s.cfg.devAddr (lowByte addr) (split v))

/-- A serial write is with the collaborator. -/
def writeStarted (addr v : Word) (s : State) : State :=
  (((s.latched .wrh addr addr).latchedData v).enter .srXfer).issue (.rtuWriteHolding s.cfg.devAddr addr v)

/-- A serial read is with the collaborator, `e` being its request. -/
def readStarted (op : Primitive) (addr : Word) (e : WireEvent) (s : State) : State :=
  ((s.latched op addr addr).enter .srXfer).issue e

theorem selectStarted_comes (op : Primitive) (a e : Word) (s : State) :
    Comes s (selectStarted op a e s) .dbSelect [.wire (.blockWrite s.cfg.devAddr (selCmd e) [lowByte e])] :=
  .of rfl rfl rfl rfl rfl rfl rfl
theorem storeStarted_comes (a v : Word) (s : State) :
    Comes s (storeStarted a v s) .dbStore [.wire (.blockWrite s.cfg.devAddr (lowByte a) (split v))] :=
  .of rfl rfl rfl rfl rfl rfl rfl
theorem writeStarted_comes (a v : Word) (s : State) :
    Comes s (writeStarted a v s) .srXfer [.wire (.rtuWriteHolding s.cfg.devAddr a v)] :=
  .of rfl rfl rfl rfl rfl rfl rfl
theorem readStarted_comes (op : Primitive) (a : Word) (e : WireEvent) (s : State) :
    Comes s (readStarted op a e s) .srXfer [.wire e] :=
  .of rfl rfl rfl rfl rfl rfl rfl

/-- What an operation at place `q` of CONFIG_UART makes of its primitive's progress. -/
def Sequence.after : Sequence → Progress → State
  | .single, p => p.single
  | .uartFirst packed, p => uartAfterFirst packed p
  | .uartSecond first, p => uartAfterSecond first p

theorem resume_eq_after (s : State) : s.resume = s.sequence.after (resumePrimitive s) := by
  cases h : s.sequence with
  | single => exact resume_single h
  | uartFirst packed => exact resume_uartFirst h
  | uartSecond first => exact resume_uartSecond h

theorem after_waiting (q : Sequence) (t : State) : q.after (.waiting t) = t.withSequence q := by cases q <;> rfl

/-- A fault ends an operation at any place (R204, R240). -/
theorem after_fault (q : Sequence) (c : Cause) (t : State) : q.after (.ended (.fault c) t) = t.deliver (.fault c) := by
  cases q <;> rfl

/-- A value, which no write of CONFIG_UART has, is delivered. -/
theorem after_value (q : Sequence) (v : Word) (t : State) : q.after (.ended (.value v) t) = t.deliver (.value v) := by
  cases q <;> rfl

/-- The state in which the event of an input read is out. -/
def inputReadStarted (a : Word) (s : State) : State :=
  match s.cfg.transport with
  | .direct => selectStarted .rdi a (inputEff a) s
  | .serial => readStarted .rdi a (.rtuReadInput s.cfg.devAddr a 1) s

/-- The state in which the event of a holding read is out. -/
def holdingReadStarted (a : Word) (s : State) : State :=
  match s.cfg.transport with
  | .direct => selectStarted .rdh a a s
  | .serial => readStarted .rdh a (.rtuReadHolding s.cfg.devAddr a 1) s

/-- The state in which the event of a holding write is out. -/
def holdingWriteStarted (a v : Word) (s : State) : State :=
  match s.cfg.transport with
  | .direct => storeStarted a v s
  | .serial => writeStarted a v s

theorem readInput_eq (a : Word) (s : State) : readInput a s = resumePrimitive (inputReadStarted a s) := by
  rcases h : s.cfg.transport <;> simp only [readInput, inputReadStarted, h] <;> rfl

theorem readHolding_eq (a : Word) (s : State) : readHolding a s = resumePrimitive (holdingReadStarted a s) := by
  rcases h : s.cfg.transport <;> simp only [readHolding, holdingReadStarted, h] <;> rfl

theorem writeHolding_eq (a v : Word) (s : State) :
    writeHolding a v s = resumePrimitive (holdingWriteStarted a v s) := by
  rcases h : s.cfg.transport <;> simp only [writeHolding, holdingWriteStarted, h] <;> rfl

/-- The first write of CONFIG_UART having a status, the second goes out (R204, D24). -/
theorem uartFirst_after_status (packed : Word) (first : Status) (t : State) :
    (Sequence.uartFirst packed).after (.ended (.status first) t) =
      (Sequence.uartSecond first).after (resumePrimitive (holdingWriteStarted Catalog.parityStop packed t)) := by
  rw [← writeHolding_eq]
  rfl

/- ### A primitive operation delivers nothing, and ends in IDLE or is busy -/

/-- A primitive operation has ended in IDLE, or waits in a phase; it has delivered no outcome, and where it waits in the
phase it was in it has put nothing on the trace (R117). -/
def OnItsWay (s : State) : Progress → Prop
  | .ended _ t => ∃ es, Comes s t .idle es ∧ outcomes es = []
  | .waiting t => ∃ ph es, Comes s t ph es ∧ outcomes es = [] ∧ ph ≠ .idle ∧ (ph = s.phase → es = [])

theorem OnItsWay.keeps {s : State} {p : Progress} (h : OnItsWay s p) : Keeps s p.after := by
  cases p with
  | ended r t => obtain ⟨es, c, -⟩ := h; exact c.keeps
  | waiting t => obtain ⟨ph, es, c, -⟩ := h; exact c.keeps

theorem Ends.onItsWay {s : State} {p : Progress} {es : List Entry} {r : Result} (h : Ends s p es r)
    (no : outcomes es = []) : OnItsWay s p := by
  obtain ⟨t, rfl, c⟩ := h
  exact ⟨es, c, no⟩

theorem Unanswered.onItsWay {s : State} {p : Progress} (h : Unanswered s p) (busy : s.phase ≠ .idle) :
    OnItsWay s p := by
  obtain ⟨t, rfl, c, -⟩ := h
  exact ⟨_, [], c, rfl, busy, fun _ => rfl⟩

/-- Going on from a later state, in whose phase no step waits again. -/
theorem OnItsWay.after {s u : State} {p : Progress} {ph : Phase} {es : List Entry} (c : Comes s u ph es)
    (no : outcomes es = []) (h : OnItsWay u p) (moves : ∀ t, p = .waiting t → t.phase ≠ s.phase) : OnItsWay s p := by
  cases p with
  | ended r t =>
    obtain ⟨fs, k, none⟩ := h
    exact ⟨_, c.trans k, by rw [outcomes_append, no, none, List.append_nil]⟩
  | waiting t =>
    obtain ⟨ph', fs, k, none, busy, -⟩ := h
    exact ⟨ph', _, c.trans k, by rw [outcomes_append, no, none, List.append_nil], busy,
      fun same => absurd (k.phase.trans same) (moves t rfl)⟩

theorem dbFetchReturn_onItsWay {s : State} (busy : s.phase ≠ .idle) : OnItsWay s (dbFetchReturn s) := by
  rcases dbFetchReturn_cases s with ⟨b0, b1, value⟩ | ⟨a, -, failed⟩ | waits
  · exact value.onItsWay rfl
  · exact failed.onItsWay rfl
  · exact waits.onItsWay busy

theorem dbFetchReturn_waits {s t : State} (h : dbFetchReturn s = .waiting t) : t.phase = s.phase := by
  rcases dbFetchReturn_cases s with ⟨b0, b1, u, ended, -⟩ | ⟨a, -, u, ended, -⟩ | ⟨u, waits, c, -⟩
  · cases h.symm.trans ended
  · cases h.symm.trans ended
  · cases h.symm.trans waits
    exact c.phase

/-- A read in or before its settle delay can come to wait in DB_FETCH only. -/
theorem dbSettle_onItsWay {s : State} (h : s.phase ≠ .dbFetch) : OnItsWay s (dbSettle s) :=
  (dbFetchReturn_onItsWay (s := fetchStarted s) nofun).after (fetchStarted_comes s) rfl
    fun _ ht same => h (same.symm.trans (dbFetchReturn_waits ht))

theorem dbSelectReturn_onItsWay {s : State} (h : s.phase = .dbSelect) : OnItsWay s (dbSelectReturn s) := by
  rcases dbSelectReturn_cases s with done | failed | waits
  · rw [done]
    refine (dbSettle_onItsWay (s := settleStarted s) nofun).after (settleStarted_comes s) rfl fun t ht same => ?_
    have fetching : t.phase = .dbFetch := dbFetchReturn_waits (s := fetchStarted (settleStarted s)) ht
    cases fetching.symm.trans (same.trans h)
  · exact failed.onItsWay rfl
  · exact waits.onItsWay (by simp [h])

theorem resumePrimitive_onItsWay {s : State} (busy : s.phase ≠ .idle) : OnItsWay s (resumePrimitive s) := by
  cases hp : s.phase with
  | idle => exact absurd hp busy
  | dbStore =>
    rw [resumePrimitive_dbStore hp]
    rcases dbStoreReturn_cases s with done | failed | waits
    · exact done.onItsWay rfl
    · exact failed.onItsWay rfl
    · exact waits.onItsWay busy
  | dbSelect => rw [resumePrimitive_dbSelect hp]; exact dbSelectReturn_onItsWay hp
  | dbSettle => rw [resumePrimitive_dbSettle hp]; exact dbSettle_onItsWay (by simp [hp])
  | dbFetch => rw [resumePrimitive_dbFetch hp]; exact dbFetchReturn_onItsWay busy
  | dbPost =>
    rw [resumePrimitive_dbPost hp]
    cases h : combineBytes s.latch.rbuf with
    | none => rw [dbPost_none h]; exact ⟨_, posted_comes s, rfl⟩
    | some v => rw [dbPost_value h]; exact ⟨_, posted_comes s, rfl⟩
  | srXfer =>
    by_cases ho : s.latch.op = .wrh
    · rw [resumePrimitive_write hp ho]
      rcases srWriteReturn_cases s with ⟨st, done⟩ | failed | waits
      · exact done.onItsWay rfl
      · exact failed.onItsWay rfl
      · exact waits.onItsWay busy
    · rw [resumePrimitive_read hp ho]
      rcases srReadReturn_cases s with ⟨l, value⟩ | failed | waits
      · exact value.onItsWay rfl
      · exact failed.onItsWay rfl
      · exact waits.onItsWay busy

end Sys2Proof.Machine
end

section
/-! PROOFS of the invariant of Safety.lean: an operation that starts or goes on keeps the run lawful. -/

namespace Sys2Proof.Machine

/- ### How a lawful run grows -/

theorem Comes.traceStage {s t : State} {ph : Phase} {es : List Entry} (h : Comes s t ph es) :
    traceStage t.cfg t.record = es.foldl (stageNext s.cfg) (traceStage s.cfg s.record) := by
  rw [h.keeps.cfg, h.record, traceStage_append]

/-- An operation ends lawfully in the outcome its stage may end in. -/
theorem Comes.lawful_deliver {s t : State} {es : List Entry} {r : Result} (h : Comes s t .idle es)
    (kept : s.cfg.delaysKept = true)
    (result : stageResult (es.foldl (stageNext s.cfg) (Machine.traceStage s.cfg s.record)) = some r) :
    Lawful (t.deliver r) := by
  have stage : Machine.traceStage t.cfg (t.record ++ [.outcome r]) = .quiet := by
    rw [traceStage_append, h.traceStage]
    simp [stageNext, result, goesTo]
  have quiet : stateStage (t.deliver r) = .quiet := by simp [stateStage, h.phase]
  refine ⟨stage.trans quiet.symm, by simp [quiet], ?_, trivial, h.keeps.cfg ▸ kept⟩
  rw [deliver_phase, h.phase]
  rfl

/-- An operation waits lawfully at the stage its trace has come to. -/
theorem Comes.lawful_wait {s t : State} {ph : Phase} {es : List Entry} {q : Sequence} (h : Comes s t ph es)
    (kept : s.cfg.delaysKept = true)
    (stage : es.foldl (stageNext s.cfg) (Machine.traceStage s.cfg s.record) = stateStage (t.withSequence q))
    (unbroken : stateStage (t.withSequence q) ≠ .broken) (fits : phaseFits s.cfg.transport ph = true)
    (place : sequenceFits (t.withSequence q)) : Lawful (t.withSequence q) := by
  refine ⟨h.traceStage.trans stage, unbroken, ?_, place, h.keeps.cfg ▸ kept⟩
  rw [withSequence_phase, h.phase, withSequence_cfg, h.keeps.cfg]
  exact fits

/-- The invariant at place `q`, with everything but the place itself said of `s`. -/
theorem Lawful.parts {s : State} {q : Sequence} (l : Lawful (s.withSequence q)) :
    traceStage s.cfg s.record = stateStage (s.withSequence q) ∧ stateStage (s.withSequence q) ≠ .broken ∧
      phaseFits s.cfg.transport s.phase = true ∧ sequenceFits (s.withSequence q) ∧ s.cfg.delaysKept = true := l

theorem Unanswered.lawful {s : State} {p : Progress} {q : Sequence} (h : Unanswered s p)
    (l : Lawful (s.withSequence q)) : Lawful (q.after p) := by
  obtain ⟨t, rfl, c, hl⟩ := h
  obtain ⟨stage, unbroken, fits, place, kept⟩ := l.parts
  have same : stateStage (t.withSequence q) = stateStage (s.withSequence q) := by simp [stateStage, c.phase, hl]
  have same_place : sequenceFits (t.withSequence q) = sequenceFits (s.withSequence q) := by
    simp [sequenceFits, c.phase, hl, c.keeps.cfg]
  rw [after_waiting]
  exact c.lawful_wait kept (stage.trans same.symm) (same ▸ unbroken) fits (same_place ▸ place)

/-- An operation faults lawfully, at any place in CONFIG_UART, where its stage may end in that fault. -/
theorem Ends.lawful_fault {s : State} {p : Progress} {es : List Entry} {c : Cause} (q : Sequence)
    (h : Ends s p es (.fault c)) (kept : s.cfg.delaysKept = true)
    (result : stageResult (es.foldl (stageNext s.cfg) (traceStage s.cfg s.record)) = some (.fault c)) :
    Lawful (q.after p) := by
  obtain ⟨t, rfl, k⟩ := h
  rw [after_fault]
  exact k.lawful_deliver kept result

theorem Ends.lawful_value {s : State} {p : Progress} {es : List Entry} {v : Word} (q : Sequence)
    (h : Ends s p es (.value v)) (kept : s.cfg.delaysKept = true)
    (result : stageResult (es.foldl (stageNext s.cfg) (traceStage s.cfg s.record)) = some (.value v)) :
    Lawful (q.after p) := by
  obtain ⟨t, rfl, k⟩ := h
  rw [after_value]
  exact k.lawful_deliver kept result

/- ### Writes -/

/-- The stage of a trace on which CONFIG_UART's first write has ended with `first`. -/
def firstWritten : Transport → Status → Stage
  | .direct, _ => .stored 0x01
  | .serial, first => .wrote 0x0001 first

/-- The second write of CONFIG_UART goes out lawfully after a first one that has ended with `first`. -/
theorem secondWrite_lawful {t : State} (packed : Word) (first : Status) (kept : t.cfg.delaysKept = true)
    (stage : traceStage t.cfg t.record = firstWritten t.cfg.transport first)
    (ok : t.cfg.transport = .direct → first = .ok) :
    Lawful ((holdingWriteStarted Catalog.parityStop packed t).withSequence (.uartSecond first)) := by
  rcases h : t.cfg.transport <;> rw [h] at stage <;> simp only [holdingWriteStarted, h]
  · refine (storeStarted_comes _ _ t).lawful_wait kept ?_ nofun (by simp [phaseFits, h]) ⟨.inl rfl, fun _ => ok h⟩
    rw [stage]
    simp [stageNext, stageOnWire, stageFromStored, goesTo, firstWritten, stateStage, storeStarted, lowByte,
      Catalog.parityStop]
  · refine (writeStarted_comes _ _ t).lawful_wait kept ?_ nofun (by simp [phaseFits, h]) ⟨.inr ⟨rfl, rfl⟩, fun hd => ?_⟩
    · rw [stage]
      simp [stageNext, stageOnWire, stageFromWrote, goesTo, firstWritten, stateStage, writeStarted, Catalog.parityStop]
    · exact absurd (h.symm.trans hd) (by decide)

/-- The place in CONFIG_UART is not its first write, so that what ends here ends the operation. -/
def Sequence.isLast : Sequence → Bool
  | .single => true
  | .uartFirst _ => false
  | .uartSecond _ => true

theorem dbStoreReturn_lawful_of_last {s : State} {q : Sequence} (l : Lawful (s.withSequence q))
    (hp : s.phase = .dbStore) (hq : q.isLast = true) : Lawful (q.after (dbStoreReturn s)) := by
  obtain ⟨stage, -, fits, place, kept⟩ := l.parts
  rcases dbStoreReturn_cases s with ⟨t, done, c⟩ | failed | waits
  · rw [done]
    cases q with
    | single => exact c.lawful_deliver kept (by rw [stage]; simp [stateStage, hp]; rfl)
    | uartFirst w => cases hq
    | uartSecond first =>
      obtain rfl : first = .ok := place.2 (by simpa [phaseFits, hp] using fits)
      exact c.lawful_deliver kept (by rw [stage]; simp [stateStage, hp]; rfl)
  · exact failed.lawful_fault q kept (by rw [stage]; cases q <;> simp [stateStage, hp] <;> rfl)
  · exact waits.lawful l

theorem srWriteReturn_lawful_of_last {s : State} {q : Sequence} (l : Lawful (s.withSequence q)) (hp : s.phase = .srXfer)
    (ho : s.latch.op = .wrh) (hq : q.isLast = true) : Lawful (q.after (srWriteReturn s)) := by
  obtain ⟨stage, -, -, -, kept⟩ := l.parts
  rcases srWriteReturn_cases s with ⟨st, t, done, c⟩ | failed | waits
  · rw [done]
    cases q with
    | single => exact c.lawful_deliver kept (by rw [stage]; simp [stateStage, hp, ho]; rfl)
    | uartFirst w => cases hq
    | uartSecond first => exact c.lawful_deliver kept (by rw [stage]; simp [stateStage, hp, ho]; rfl)
  · exact failed.lawful_fault q kept (by rw [stage]; cases q <;> simp [stateStage, hp, ho] <;> rfl)
  · exact waits.lawful l

theorem secondWrite_goes_on_lawful {t : State} {first : Status} {packed : Word}
    (l : Lawful ((holdingWriteStarted Catalog.parityStop packed t).withSequence (.uartSecond first))) :
    Lawful ((Sequence.uartSecond first).after (resumePrimitive (holdingWriteStarted Catalog.parityStop packed t))) := by
  rcases h : t.cfg.transport <;> simp only [holdingWriteStarted, h] at l ⊢
  · exact dbStoreReturn_lawful_of_last l rfl rfl
  · exact srWriteReturn_lawful_of_last l rfl rfl rfl

theorem dbStoreReturn_lawful {s : State} {q : Sequence} (l : Lawful (s.withSequence q)) (hp : s.phase = .dbStore) :
    Lawful (q.after (dbStoreReturn s)) := by
  cases q with
  | single => exact dbStoreReturn_lawful_of_last l hp rfl
  | uartSecond first => exact dbStoreReturn_lawful_of_last l hp rfl
  | uartFirst packed =>
    obtain ⟨stage, -, fits, ⟨-, baud⟩, kept⟩ := l.parts
    have stage : traceStage s.cfg s.record = .storing 0x01 :=
      stage.trans (by simp [stateStage, hp, show s.latch.eff = 1 from baud, lowByte])
    rcases dbStoreReturn_cases s with ⟨t, done, c⟩ | failed | waits
    · have direct : t.cfg.transport = .direct := c.keeps.cfg ▸ by simpa [phaseFits, hp] using fits
      rw [done, uartFirst_after_status]
      refine secondWrite_goes_on_lawful (secondWrite_lawful _ _ (c.keeps.cfg ▸ kept) ?_ fun _ => rfl)
      rw [c.traceStage, stage, direct]
      rfl
    · exact failed.lawful_fault _ kept (by rw [stage]; rfl)
    · exact waits.lawful l

theorem srWriteReturn_lawful {s : State} {q : Sequence} (l : Lawful (s.withSequence q)) (hp : s.phase = .srXfer)
    (ho : s.latch.op = .wrh) : Lawful (q.after (srWriteReturn s)) := by
  cases q with
  | single => exact srWriteReturn_lawful_of_last l hp ho rfl
  | uartSecond first => exact srWriteReturn_lawful_of_last l hp ho rfl
  | uartFirst packed =>
    obtain ⟨stage, -, fits, ⟨-, baud⟩, kept⟩ := l.parts
    have stage : traceStage s.cfg s.record = .writing 0x0001 :=
      stage.trans (by simp [stateStage, hp, ho, show s.latch.eff = 1 from baud])
    rcases srWriteReturn_cases s with ⟨st, t, done, c⟩ | failed | waits
    · have serial : t.cfg.transport = .serial := c.keeps.cfg ▸ by simpa [phaseFits, hp] using fits
      rw [done, uartFirst_after_status]
      refine secondWrite_goes_on_lawful (secondWrite_lawful _ _ (c.keeps.cfg ▸ kept) ?_ fun hd => ?_)
      · rw [c.traceStage, stage, serial]
        rfl
      · exact absurd (serial.symm.trans hd) (by decide)
    · exact failed.lawful_fault _ kept (by rw [stage]; rfl)
    · exact waits.lawful l

/- ### Reads -/

theorem srReadReturn_lawful {s : State} {q : Sequence} (l : Lawful (s.withSequence q)) (hp : s.phase = .srXfer)
    (ho : s.latch.op ≠ .wrh) : Lawful (q.after (srReadReturn s)) := by
  obtain ⟨stage, -, -, -, kept⟩ := l.parts
  have stage : traceStage s.cfg s.record = .reading := stage.trans (by cases h : s.latch.op <;> simp_all [stateStage])
  rcases srReadReturn_cases s with ⟨bytes, ends⟩ | failed | waits
  · exact ends.lawful_value q kept (by rw [stage]; rfl)
  · exact failed.lawful_value q kept (by rw [stage]; rfl)
  · exact waits.lawful l

theorem dbPost_lawful {s : State} {q : Sequence} (l : Lawful (s.withSequence q)) (hp : s.phase = .dbPost) :
    Lawful (q.after (dbPost s)) := by
  obtain ⟨stage, unbroken, -, -, kept⟩ := l.parts
  rcases h : combineBytes s.latch.rbuf with _ | v
  · exact absurd (by simp [stateStage, hp, h]) unbroken
  · have stage : traceStage s.cfg s.record = .fetched v := stage.trans (by simp [stateStage, hp, h])
    rw [dbPost_value h, after_value]
    exact (posted_comes s).lawful_deliver kept (by rw [stage]; simp [stageNext, stageOnWire, goesTo, stageResult])

theorem dbFetchReturn_lawful {s : State} {q : Sequence} (l : Lawful (s.withSequence q)) (hp : s.phase = .dbFetch) :
    Lawful (q.after (dbFetchReturn s)) := by
  obtain ⟨stage, -, -, -, kept⟩ := l.parts
  have stage : traceStage s.cfg s.record = .fetching := stage.trans (by simp [stateStage, hp])
  rcases dbFetchReturn_cases s with ⟨b0, b1, value⟩ | ⟨a, bad, failed⟩ | waits
  · refine value.lawful_value q kept ?_
    rw [stage]
    simp [stageNext, stageOnAnswer, stageFromFetching, combineBytes, stageOnWire, goesTo, stageResult]
  · refine failed.lawful_fault q kept ?_
    rw [stage]
    cases a with
    | failed => rfl
    | bytes l =>
      have none : combineBytes l = none := by
        unfold combineBytes
        split
        · exact absurd rfl bad
        · rfl
      simp [stageNext, stageOnAnswer, stageFromFetching, none, stageResult]
    | done => cases bad
    | status st => cases bad
  · exact waits.lawful l

/-- CONFIG_UART is in progress in the phases of a write only. -/
theorem Lawful.single_of_phase {s : State} {q : Sequence} (l : Lawful (s.withSequence q)) (h1 : s.phase ≠ .dbStore)
    (h2 : s.phase ≠ .srXfer) : q = .single := by
  obtain ⟨-, -, -, place, -⟩ := l.parts
  cases q with
  | single => rfl
  | uartFirst w => rcases place.1 with h | ⟨h, -⟩ <;> contradiction
  | uartSecond first => rcases place.1 with h | ⟨h, -⟩ <;> contradiction

theorem dbSettle_lawful {s : State} {q : Sequence} (l : Lawful (s.withSequence q)) (hp : s.phase = .dbSettle) :
    Lawful (q.after (dbSettle s)) := by
  obtain rfl := l.single_of_phase (by simp [hp]) (by simp [hp])
  obtain ⟨stage, -, fits, -, kept⟩ := l.parts
  have stage : traceStage s.cfg s.record = .selected := stage.trans (by simp [stateStage, hp])
  rw [dbSettle_eq]
  refine dbFetchReturn_lawful ?_ rfl
  refine (fetchStarted_comes s).lawful_wait kept ?_ nofun (by simpa [phaseFits, hp] using fits) trivial
  rw [stage]
  simp [stageNext, stageOnWire, goesTo, stateStage, fetchStarted]

theorem dbSelectReturn_lawful {s : State} {q : Sequence} (l : Lawful (s.withSequence q)) (hp : s.phase = .dbSelect) :
    Lawful (q.after (dbSelectReturn s)) := by
  obtain rfl := l.single_of_phase (by simp [hp]) (by simp [hp])
  obtain ⟨stage, -, fits, -, kept⟩ := l.parts
  have stage : traceStage s.cfg s.record = .selecting := stage.trans (by simp [stateStage, hp])
  rcases dbSelectReturn_cases s with done | failed | waits
  · rw [done]
    refine dbSettle_lawful ?_ rfl
    have fits : phaseFits s.cfg.transport .dbSettle = true := by simpa [phaseFits, hp] using fits
    exact (settleStarted_comes s).lawful_wait kept (by rw [stage]; rfl) nofun fits trivial
  · exact failed.lawful_fault _ kept (by rw [stage]; rfl)
  · exact waits.lawful l

/- ### Operations and steps -/

/-- An operation that goes on keeps the run lawful, whatever it is and wherever it stands. -/
theorem resumePrimitive_lawful {s : State} {q : Sequence} (l : Lawful (s.withSequence q)) (busy : s.phase ≠ .idle) :
    Lawful (q.after (resumePrimitive s)) := by
  cases hp : s.phase with
  | idle => exact absurd hp busy
  | dbStore => rw [resumePrimitive_dbStore hp]; exact dbStoreReturn_lawful l hp
  | dbSelect => rw [resumePrimitive_dbSelect hp]; exact dbSelectReturn_lawful l hp
  | dbSettle => rw [resumePrimitive_dbSettle hp]; exact dbSettle_lawful l hp
  | dbFetch => rw [resumePrimitive_dbFetch hp]; exact dbFetchReturn_lawful l hp
  | dbPost => rw [resumePrimitive_dbPost hp]; exact dbPost_lawful l hp
  | srXfer =>
    by_cases ho : s.latch.op = .wrh
    · rw [resumePrimitive_write hp ho]; exact srWriteReturn_lawful l hp ho
    · rw [resumePrimitive_read hp ho]; exact srReadReturn_lawful l hp ho

theorem Lawful.goes_on {s : State} (l : Lawful s) (busy : s.phase ≠ .idle) : Lawful s.resume := by
  rw [resume_eq_after]
  exact resumePrimitive_lawful l busy

/-- A lawful IDLE block is in no sequence, and its trace is at no operation. -/
theorem Lawful.quiet {s : State} (l : Lawful s) (idle : s.phase = .idle) :
    traceStage s.cfg s.record = .quiet ∧ s.cfg.delaysKept = true := by
  obtain ⟨stage, -, -, -, kept⟩ := l
  exact ⟨stage.trans (by simp [stateStage, idle]), kept⟩

/-- A direct-bus read starts lawfully from a quiet trace. -/
theorem selectStarted_lawful {s : State} (op : Primitive) (a e : Word) (hd : s.cfg.transport = .direct)
    (quiet : traceStage s.cfg s.record = .quiet) (kept : s.cfg.delaysKept = true) :
    Lawful ((selectStarted op a e s).withSequence .single) := by
  refine (selectStarted_comes op a e s).lawful_wait kept ?_ nofun (by simp [phaseFits, hd]) trivial
  rw [quiet]
  simp [stageNext, stageOnWire, stageFromQuiet, goesTo, hd, stateStage, selectStarted]

/-- A serial read starts lawfully from a quiet trace, `e` being a request the grammar lets start one. -/
theorem readStarted_lawful {s : State} {op : Primitive} (a : Word) {e : WireEvent} (hs : s.cfg.transport = .serial)
    (ho : op ≠ .wrh) (he : stageFromQuiet s.cfg e = .reading) (quiet : traceStage s.cfg s.record = .quiet)
    (kept : s.cfg.delaysKept = true) : Lawful ((readStarted op a e s).withSequence .single) := by
  have stage : stateStage ((readStarted op a e s).withSequence .single) = .reading := by
    cases op with
    | wrh => contradiction
    | rdi => rfl
    | rdh => rfl
  refine (readStarted_comes op a e s).lawful_wait kept ?_ (by simp [stage]) (by simp [phaseFits, hs]) trivial
  rw [quiet, stage]
  exact he

theorem readInput_lawful {s : State} (a : Word) (l : Lawful s) (idle : s.phase = .idle) :
    Lawful (readInput a s).single := by
  obtain ⟨quiet, kept⟩ := l.quiet idle
  rw [readInput_eq]
  rcases h : s.cfg.transport <;> simp only [inputReadStarted, h]
  · exact resumePrimitive_lawful (q := .single) (selectStarted_lawful _ _ _ h quiet kept) nofun
  · refine resumePrimitive_lawful (q := .single) (readStarted_lawful a h nofun ?_ quiet kept) nofun
    simp [stageFromQuiet, goesTo, h]

theorem readHolding_lawful {s : State} (a : Word) (l : Lawful s) (idle : s.phase = .idle) :
    Lawful (readHolding a s).single := by
  obtain ⟨quiet, kept⟩ := l.quiet idle
  rw [readHolding_eq]
  rcases h : s.cfg.transport <;> simp only [holdingReadStarted, h]
  · exact resumePrimitive_lawful (q := .single) (selectStarted_lawful _ _ _ h quiet kept) nofun
  · refine resumePrimitive_lawful (q := .single) (readStarted_lawful a h nofun ?_ quiet kept) nofun
    simp [stageFromQuiet, goesTo, h]

/-- The places in which a write to `a` may start: a lone one anywhere, CONFIG_UART's first at the baud register. -/
def startsAt (a : Word) (q : Sequence) : Prop := q = .single ∨ ∃ packed, q = .uartFirst packed ∧ a = Catalog.baudRate

theorem storeStarted_lawful {s : State} {q : Sequence} {a : Word} (v : Word) (hd : s.cfg.transport = .direct)
    (place : startsAt a q) (quiet : traceStage s.cfg s.record = .quiet) (kept : s.cfg.delaysKept = true) :
    Lawful ((storeStarted a v s).withSequence q) := by
  have stage : stateStage ((storeStarted a v s).withSequence q) = .storing (lowByte a) := by
    rcases place with rfl | ⟨w, rfl, -⟩ <;> rfl
  have fits : sequenceFits ((storeStarted a v s).withSequence q) := by
    rcases place with rfl | ⟨w, rfl, ha⟩
    · trivial
    · exact ⟨.inl rfl, ha⟩
  refine (storeStarted_comes a v s).lawful_wait kept ?_ (by simp [stage]) (by simp [phaseFits, hd]) fits
  rw [quiet, stage]
  simp [stageNext, stageOnWire, stageFromQuiet, goesTo, hd]

theorem writeStarted_lawful {s : State} {q : Sequence} {a : Word} (v : Word) (hs : s.cfg.transport = .serial)
    (place : startsAt a q) (quiet : traceStage s.cfg s.record = .quiet) (kept : s.cfg.delaysKept = true) :
    Lawful ((writeStarted a v s).withSequence q) := by
  have stage : stateStage ((writeStarted a v s).withSequence q) = .writing a := by
    rcases place with rfl | ⟨w, rfl, -⟩ <;> rfl
  have fits : sequenceFits ((writeStarted a v s).withSequence q) := by
    rcases place with rfl | ⟨w, rfl, ha⟩
    · trivial
    · exact ⟨.inr ⟨rfl, rfl⟩, ha⟩
  refine (writeStarted_comes a v s).lawful_wait kept ?_ (by simp [stage]) (by simp [phaseFits, hs]) fits
  rw [quiet, stage]
  simp [stageNext, stageOnWire, stageFromQuiet, goesTo, hs]

theorem writeHolding_lawful {s : State} {q : Sequence} {a : Word} (v : Word) (l : Lawful s) (idle : s.phase = .idle)
    (place : startsAt a q) : Lawful (q.after (writeHolding a v s)) := by
  obtain ⟨quiet, kept⟩ := l.quiet idle
  rw [writeHolding_eq]
  rcases h : s.cfg.transport <;> simp only [holdingWriteStarted, h]
  · exact resumePrimitive_lawful (storeStarted_lawful v h place quiet kept) nofun
  · exact resumePrimitive_lawful (writeStarted_lawful v h place quiet kept) nofun

theorem exec_lawful {i : Instr} {s t : State} (l : Lawful s) (idle : s.phase = .idle) (h : exec i s = .next t) :
    Lawful t := by
  rcases exec_shape h with ⟨a, rfl⟩ | ⟨a, rfl⟩ | ⟨a, v, -, rfl⟩ | ⟨b, p, q, rfl⟩ | rfl
  · exact readInput_lawful a l idle
  · exact readHolding_lawful a l idle
  · exact writeHolding_lawful (q := .single) v l idle (.inl rfl)
  · exact writeHolding_lawful (q := .uartFirst _) b l idle (.inr ⟨_, rfl, rfl⟩)
  · obtain ⟨quiet, kept⟩ := l.quiet idle
    have c : Comes s s.toIdle .idle [] := .of rfl rfl rfl rfl rfl rfl (List.append_nil _).symm
    exact c.lawful_deliver kept (by rw [quiet]; rfl)

theorem step_none {s : State} (idle : s.phase = .idle) (h : s.inbox = []) : step s = .next s.deviceRuns :=
  (step_idle idle).trans (takeRequest_none h)

theorem step_command {s : State} {ws : List CommandWord} {rest : List Request} (idle : s.phase = .idle)
    (h : s.inbox = .command ws :: rest) : step s = s.deviceRuns.present ws rest :=
  (step_idle idle).trans (takeRequest_command h)

theorem step_construct {s : State} {c : Cfg} {p : SerialParams} {o : Bool} {rest : List Request}
    (idle : s.phase = .idle) (h : s.inbox = .construct c p o :: rest) : step s = s.deviceRuns.build c p o rest :=
  (step_idle idle).trans (takeRequest_construct h)

/-- What a step at an IDLE block that answers has done: nothing, an operation, or a construction. -/
theorem step_idle_cases {s t : State} (idle : s.phase = .idle) (h : step s = .next t) :
    (s.inbox = [] ∧ t = s.deviceRuns) ∨
      (∃ ws rest i, s.inbox = .command ws :: rest ∧ decode ws = .ok i ∧ exec i (s.deviceRuns.accept rest) = .next t) ∨
      ∃ c p o rest, s.inbox = .construct c p o :: rest ∧ c.delaysKept = true ∧
        t = (s.deviceRuns.construct c p o).accept rest := by
  match hi : s.inbox with
  | [] =>
    rw [step_none idle hi] at h
    exact .inl ⟨rfl, (Host.Outcome.next.inj h).symm⟩
  | .command ws :: rest =>
    rw [step_command idle hi, State.present] at h
    split at h
    · split at h
      · exact .inr (.inl ⟨ws, rest, _, rfl, ‹_›, h⟩)
      · cases h
    · cases h
  | .construct c p o :: rest =>
    rw [step_construct idle hi, State.build] at h
    split at h
    · exact .inr (.inr ⟨c, p, o, rest, rfl, ‹_›, (Host.Outcome.next.inj h).symm⟩)
    · cases h

/-- A block with an empty trace, in IDLE and in no sequence, is lawful if its delays are kept. -/
theorem lawful_of_fresh {s : State} (idle : s.phase = .idle) (single : s.sequence = .single) (empty : s.record = [])
    (kept : s.cfg.delaysKept = true) : Lawful s := by
  have quiet : stateStage s = .quiet := by simp [stateStage, idle]
  refine ⟨by rw [quiet, empty]; rfl, by simp [quiet], by rw [idle]; rfl, ?_, kept⟩
  simp [sequenceFits, single]

/-- Settles O57: a busy block goes on lawfully; an IDLE one waits, runs an operation, or begins a new trace. -/
theorem everyStepKeepsRunLawful : Obligations.EveryStepKeepsRunLawful := by
  unfold Obligations.EveryStepKeepsRunLawful
  intro s t l h
  have ran : Lawful s.deviceRuns := l
  by_cases idle : s.phase = .idle
  · rcases step_idle_cases idle h with ⟨-, rfl⟩ | ⟨ws, rest, i, -, -, ran_next⟩ | ⟨c, p, o, rest, -, kept, rfl⟩
    · exact ran
    · exact exec_lawful (s := s.deviceRuns.accept rest) ran idle ran_next
    · exact lawful_of_fresh rfl rfl rfl kept
  · rw [step_busy idle] at h
    obtain rfl := Host.Outcome.next.inj h
    exact ran.goes_on idle

/-- Settles O58: a fresh block has an empty trace. -/
theorem freshInstanceIsLawful : Obligations.FreshInstanceIsLawful := by
  unfold Obligations.FreshInstanceIsLawful
  exact ⟨fun c p hs hp => lawful_of_fresh rfl rfl rfl ((Cfg.delaysKept_iff c).mpr ⟨hs, hp⟩),
    lawful_of_fresh rfl rfl rfl rfl⟩

end Sys2Proof.Machine
end

section
/-! PROOFS about the command port and the facade: what is taken when, what is refused, and what no operation writes
(40_transport_capability section 2, 43_facade, 70_reset_and_hazards section 1). -/

namespace Sys2Proof.Machine

open Sys2Proof.Claims (getters setters holdAddr)

/- ### Constructions and requests -/

/-- Settles O9: the fields of the two constructions. -/
theorem constructionIsSilent : Obligations.ConstructionIsSilent := by
  unfold Obligations.ConstructionIsSilent
  exact fun c p s => ⟨rfl, rfl, rfl, rfl, rfl, rfl, rfl, rfl, rfl, rfl, rfl⟩

/-- Settles O10: `build` is guarded by the two delays. -/
theorem constructionRequestTakesEffect : Obligations.ConstructionRequestTakesEffect := by
  unfold Obligations.ConstructionRequestTakesEffect
  intro s c p o rest idle asked
  rw [step_construct idle asked]
  refine ⟨fun long => ?_, fun short => build_short ?_ p o rest _⟩
  · exact ⟨_, build_kept (c.delaysKept_iff.mpr long) p o rest _, rfl, rfl, rfl, rfl, rfl, rfl, rfl, rfl⟩
  · rw [Cfg.delaysKept_iff]
    omega

theorem present_decoded {s : State} {ws : List CommandWord} {i : Instr} (rest : List Request)
    (h : s.link.isOpen = true) (hd : decode ws = .ok i) : s.present ws rest = exec i (s.accept rest) := by
  simp [State.present, h, hd]

theorem present_malformed {s : State} {ws : List CommandWord} (rest : List Request)
    (h : s.link.isOpen = true) (hd : ∀ i, decode ws ≠ .ok i) : s.present ws rest = .refused .malformedRequest := by
  cases hw : decode ws with
  | ok i => exact absurd hw (hd i)
  | error e => simp [State.present, h, hw]

theorem present_closed {s : State} (ws : List CommandWord) (rest : List Request) (h : s.link.isOpen = false) :
    s.present ws rest = .fault .noInstance := by
  simp [State.present, h]

/-- Settles O11: the request is presented once the device has run on. -/
theorem stepRunsDecodedOperation : Obligations.StepRunsDecodedOperation := by
  unfold Obligations.StepRunsDecodedOperation
  intro s ws rest i idle isOpen asked decoded
  exact (step_command idle asked).trans (present_decoded rest isOpen decoded)

/-- Settles O12: with an empty inbox all that happens is that the device runs on. -/
theorem idleBlockWaits : Obligations.IdleBlockWaits := by
  unfold Obligations.IdleBlockWaits
  exact fun s => step_none

/- ### Stops -/

/-- WRH wherever it has a wire form. -/
theorem exec_wrh {s : State} {a : Word} (v : Word) (h : s.cfg.transport = .direct → a.toNat < 256) :
    exec (.wrh a v) s = .next (writeHolding a v s).single := by
  have form : ¬ (s.cfg.transport = .direct && !storable a) = true := by
    simpa [← Bool.not_eq_true, storable_iff] using h
  exact if_neg form

/-- Settles O18: the guard of `execWrh`. -/
theorem wideStoreOnDirectIsRefused : Obligations.WideStoreOnDirectIsRefused := by
  unfold Obligations.WideStoreOnDirectIsRefused
  intro s a v direct wide
  have no_form : (s.cfg.transport = .direct && !storable a) = true := by
    simpa [direct, ← Bool.not_eq_true, storable_iff] using wide
  exact if_pos no_form

theorem exec_answers (i : Instr) (s : State) :
    (∃ t, exec i s = .next t) ∨
      ∃ a v, i = .wrh a v ∧ s.cfg.transport = .direct ∧ 256 ≤ a.toNat ∧
        exec i s = .refused (.storeAddressTooWide a) := by
  cases i with
  | wrh a v =>
    by_cases h : s.cfg.transport = .direct ∧ 256 ≤ a.toNat
    · exact .inr ⟨a, v, rfl, h.1, h.2, wideStoreOnDirectIsRefused s a v h.1 h.2⟩
    · exact .inl ⟨_, exec_wrh v fun hd => not_le.mp fun hw => h ⟨hd, hw⟩⟩
  | _ => exact .inl ⟨_, rfl⟩

/-- Settles O44: WRH is the one operation with a guard. -/
theorem onlyWideStoresStop : Obligations.OnlyWideStoresStop := exec_answers

/-- Settles O14: an operation that runs neither faults nor is malformed. -/
theorem noInstanceAndMalformedStopsOccurExactly : Obligations.NoInstanceAndMalformedStopsOccurExactly := by
  unfold Obligations.NoInstanceAndMalformedStopsOccurExactly
  intro s ws rest idle asked
  rw [step_command idle asked]
  cases isOpen : s.link.isOpen with
  | false => simp [present_closed ws rest (s := s.deviceRuns) isOpen]
  | true =>
    cases decoded : decode ws with
    | error e =>
      have no_operation : ∀ i, decode ws ≠ .ok i := fun i h => by cases decoded.symm.trans h
      simp [present_malformed rest (s := s.deviceRuns) isOpen no_operation]
    | ok i =>
      rw [present_decoded rest (s := s.deviceRuns) isOpen decoded]
      rcases exec_answers i (s.deviceRuns.accept rest) with ⟨t, h⟩ | ⟨a, v, -, -, -, h⟩ <;> simp [h]

/- ### The reserved code and the facade -/

/-- Settles O22: the reserved code raises its fault and does nothing else. -/
theorem reservedCodeFaults : Obligations.ReservedCodeFaults := by
  unfold Obligations.ReservedCodeFaults
  intro s a x
  have c : Comes s s.toIdle .idle [] := .of rfl rfl rfl rfl rfl rfl (List.append_nil _).symm
  exact ⟨_, rfl, c.delivers _, rfl, rfl, rfl, rfl, rfl⟩

theorem exec_getter {g : (Word → Instr) × Word} (hg : g ∈ getters) (x : Word) (s : State) :
    exec (g.1 x) s = .next (readInput g.2 s).single := by
  simp only [getters, List.mem_cons, List.not_mem_nil, or_false] at hg
  rcases hg with rfl | rfl | rfl | rfl | rfl | rfl | rfl | rfl <;> rfl

theorem exec_setter {g : (Word → Instr) × Fin Catalog.nHold} (hg : g ∈ setters) (v : Word) (s : State) :
    exec (g.1 v) s = .next (writeHolding (holdAddr g.2) v s).single := by
  simp only [setters, List.mem_cons, List.not_mem_nil, or_false] at hg
  rcases hg with rfl | rfl | rfl | rfl <;> rfl

theorem holdAddr_toNat (k : Fin Catalog.nHold) : (holdAddr k).toNat = k.val :=
  (BitVec.toNat_ofNat k.val 16).trans (Nat.mod_eq_of_lt (k.isLt.trans (by decide)))

/-- Every catalogued holding register has a wire form on the direct bus. -/
theorem exec_wrh_holdAddr (k : Fin Catalog.nHold) (v : Word) (s : State) :
    exec (.wrh (holdAddr k) v) s = .next (writeHolding (holdAddr k) v s).single :=
  exec_wrh v fun _ => (holdAddr_toNat k).trans_lt (k.isLt.trans (by decide))

/-- Settles O27: a getter is the input read of its register, a setter the holding write of its own. -/
theorem facadeIsItsExpansion : Obligations.FacadeIsItsExpansion := by
  unfold Obligations.FacadeIsItsExpansion
  exact ⟨fun g hg x y s => exec_getter hg x s,
    fun g hg v s => (exec_setter hg v s).trans (exec_wrh_holdAddr g.2 v s).symm⟩

/-- Settles O53: no meaning has its ignored operand on the right-hand side. -/
theorem ignoredFieldsHaveNoEffect : Obligations.IgnoredFieldsHaveNoEffect := by
  unfold Obligations.IgnoredFieldsHaveNoEffect
  exact fun s a b x y => ⟨rfl, rfl, rfl, fun g hg => (exec_getter hg x s).trans (exec_getter hg y s).symm⟩

/- ### What no operation writes -/

/-- From `s` to `t` configuration, link and inbox have stayed. -/
structure SameSetup (s t : State) : Prop where
  cfg   : t.cfg = s.cfg
  link  : t.link = s.link
  inbox : t.inbox = s.inbox

theorem SameSetup.trans {s t u : State} (h : SameSetup s t) (k : SameSetup t u) : SameSetup s u :=
  ⟨k.cfg.trans h.cfg, k.link.trans h.link, k.inbox.trans h.inbox⟩

theorem Keeps.sameSetup {s t : State} (h : Keeps s t) : SameSetup s t := ⟨h.cfg, h.link, h.inbox⟩

theorem single_sameSetup (p : Progress) : SameSetup p.after p.single := by cases p <;> exact ⟨rfl, rfl, rfl⟩

theorem uartAfterSecond_sameSetup (first : Status) (p : Progress) : SameSetup p.after (uartAfterSecond first p) := by
  cases p <;> exact ⟨rfl, rfl, rfl⟩

theorem uartAfterFirst_sameSetup (packed : Word) (p : Progress) : SameSetup p.after (uartAfterFirst packed p) := by
  cases p with
  | waiting t => exact ⟨rfl, rfl, rfl⟩
  | ended r t =>
    cases r with
    | status first => exact (writeHolding_keeps _ packed t).1.sameSetup.trans (uartAfterSecond_sameSetup first _)
    | fault c => exact ⟨rfl, rfl, rfl⟩
    | value v => exact ⟨rfl, rfl, rfl⟩

theorem after_sameSetup (q : Sequence) (p : Progress) : SameSetup p.after (q.after p) := by
  cases q with
  | single => exact single_sameSetup p
  | uartFirst packed => exact uartAfterFirst_sameSetup packed p
  | uartSecond first => exact uartAfterSecond_sameSetup first p

theorem resume_sameSetup {s : State} (busy : s.phase ≠ .idle) : SameSetup s s.resume := by
  rw [resume_eq_after]
  exact (resumePrimitive_onItsWay busy).keeps.sameSetup.trans (after_sameSetup _ _)

theorem exec_sameSetup {i : Instr} {s t : State} (h : exec i s = .next t) : SameSetup s t := by
  rcases exec_shape h with ⟨a, rfl⟩ | ⟨a, rfl⟩ | ⟨a, v, -, rfl⟩ | ⟨b, p, q, rfl⟩ | rfl
  · exact (readInput_keeps a s).1.sameSetup.trans (single_sameSetup _)
  · exact (readHolding_keeps a s).1.sameSetup.trans (single_sameSetup _)
  · exact (writeHolding_keeps a v s).1.sameSetup.trans (single_sameSetup _)
  · exact (writeHolding_keeps _ b s).1.sameSetup.trans (uartAfterFirst_sameSetup _ _)
  · exact ⟨rfl, rfl, rfl⟩

/-- Settles O45: no primitive and no place in CONFIG_UART writes them. -/
theorem noOperationWritesConfiguration : Obligations.NoOperationWritesConfiguration := by
  unfold Obligations.NoOperationWritesConfiguration
  intro i s t h
  obtain ⟨cfg, link, inbox⟩ := exec_sameSetup h
  exact ⟨cfg, link, inbox⟩

/-- Settles O13: a busy block goes on with its operation. -/
theorem busyPortAcceptsNothing : Obligations.BusyPortAcceptsNothing := by
  unfold Obligations.BusyPortAcceptsNothing
  intro s busy
  obtain ⟨cfg, link, inbox⟩ := resume_sameSetup (s := s.deviceRuns) ‹_›
  exact ⟨_, step_busy busy, inbox, cfg, link⟩

/-- Settles O60: of what a step can do, a construction alone writes them. -/
theorem onlyConstructionChangesConfiguration : Obligations.OnlyConstructionChangesConfiguration := by
  unfold Obligations.OnlyConstructionChangesConfiguration
  intro s t h
  by_cases idle : s.phase = .idle
  · rcases step_idle_cases idle h with ⟨-, rfl⟩ | ⟨ws, rest, i, -, -, ran⟩ | ⟨c, p, o, rest, asked, -, rfl⟩
    · exact .inl ⟨rfl, rfl⟩
    · obtain ⟨cfg, link, -⟩ := exec_sameSetup ran
      exact .inl ⟨cfg, link⟩
    · exact .inr ⟨idle, c, p, o, rest, asked, rfl, rfl⟩
  · rw [step_busy idle] at h
    obtain rfl := Host.Outcome.next.inj h
    obtain ⟨cfg, link, -⟩ := resume_sameSetup (s := s.deviceRuns) ‹_›
    exact .inl ⟨cfg, link⟩

end Sys2Proof.Machine
end

section
/-! PROOFS about what an operation leaves on the trace: one outcome or none, no event twice, no FAIL and both delays on
the direct bus, no fault of a serial read. -/

namespace Sys2Proof.Machine

open Sys2Proof.Claims (StillUnanswered)

/- ### Outcomes -/

@[simp] theorem outcomes_nil : outcomes [] = [] := rfl
@[simp] theorem outcomes_wire (e : WireEvent) (l : List Entry) : outcomes (.wire e :: l) = outcomes l := rfl
@[simp] theorem outcomes_answer (a : WireAnswer) (l : List Entry) : outcomes (.answer a :: l) = outcomes l := rfl
@[simp] theorem outcomes_outcome (r : Result) (l : List Entry) : outcomes (.outcome r :: l) = r :: outcomes l := rfl

theorem Comes.outcomes {s t : State} {ph : Phase} {es : List Entry} (h : Comes s t ph es)
    (no : Machine.outcomes es = []) : Machine.outcomes t.record = Machine.outcomes s.record := by
  rw [h.record, outcomes_append, no, List.append_nil]

theorem deliver_outcomes (r : Result) (t : State) : outcomes (t.deliver r).record = outcomes t.record ++ [r] := by
  simp [outcomes_append]

/-- From `s` to `t` an operation has delivered one outcome and is over, or none and is in progress. -/
def OneOutcome (s t : State) : Prop :=
  (t.phase = .idle ∧ t.sequence = .single ∧
      ∃ r, outcomes t.record = outcomes s.record ++ [r] ∧ t.response = some r.toWord) ∨
    (t.phase ≠ .idle ∧ outcomes t.record = outcomes s.record ∧ t.response = s.response)

theorem Comes.oneOutcome_deliver {s t : State} {es : List Entry} (h : Comes s t .idle es)
    (no : Machine.outcomes es = []) (r : Result) : OneOutcome s (t.deliver r) :=
  .inl ⟨h.phase, rfl, r, by rw [deliver_outcomes, h.outcomes no], rfl⟩

theorem OneOutcome.after {s u t : State} {ph : Phase} {es : List Entry} (c : Comes s u ph es) (no : outcomes es = [])
    (h : OneOutcome u t) : OneOutcome s t := by
  unfold OneOutcome at h ⊢
  rwa [c.outcomes no, c.keeps.response] at h

theorem OnItsWay.oneOutcome_wait {s t : State} (q : Sequence) (h : OnItsWay s (.waiting t)) :
    OneOutcome s (t.withSequence q) := by
  obtain ⟨ph, es, c, no, busy, -⟩ := h
  exact .inr ⟨fun idle => busy (c.phase.symm.trans idle), c.outcomes no, c.keeps.response⟩

/-- Where no second write is to follow, what ends ends the operation. -/
theorem OnItsWay.oneOutcome_last {s : State} {p : Progress} {q : Sequence} (h : OnItsWay s p)
    (last : q.isLast = true) : OneOutcome s (q.after p) := by
  cases p with
  | waiting t => rw [after_waiting]; exact h.oneOutcome_wait q
  | ended r t =>
    obtain ⟨es, c, no⟩ := h
    cases q with
    | single => exact c.oneOutcome_deliver no r
    | uartFirst packed => cases last
    | uartSecond first => exact c.oneOutcome_deliver no _

theorem holdingWriteStarted_comes (a v : Word) (s : State) :
    ∃ ph e, Comes s (holdingWriteStarted a v s) ph [.wire e] ∧ ph ≠ .idle := by
  rcases h : s.cfg.transport <;> simp only [holdingWriteStarted, h]
  · exact ⟨_, _, storeStarted_comes a v s, nofun⟩
  · exact ⟨_, _, writeStarted_comes a v s, nofun⟩

theorem inputReadStarted_comes (a : Word) (s : State) :
    ∃ ph e, Comes s (inputReadStarted a s) ph [.wire e] ∧ ph ≠ .idle := by
  rcases h : s.cfg.transport <;> simp only [inputReadStarted, h]
  · exact ⟨_, _, selectStarted_comes _ _ _ s, nofun⟩
  · exact ⟨_, _, readStarted_comes _ _ _ s, nofun⟩

theorem holdingReadStarted_comes (a : Word) (s : State) :
    ∃ ph e, Comes s (holdingReadStarted a s) ph [.wire e] ∧ ph ≠ .idle := by
  rcases h : s.cfg.transport <;> simp only [holdingReadStarted, h]
  · exact ⟨_, _, selectStarted_comes _ _ _ s, nofun⟩
  · exact ⟨_, _, readStarted_comes _ _ _ s, nofun⟩

theorem OnItsWay.oneOutcome {s : State} {p : Progress} (q : Sequence) (h : OnItsWay s p) :
    OneOutcome s (q.after p) := by
  cases q with
  | single => exact h.oneOutcome_last rfl
  | uartSecond first => exact h.oneOutcome_last rfl
  | uartFirst packed =>
    cases p with
    | waiting t => exact h.oneOutcome_wait _
    | ended r t =>
      obtain ⟨es, c, no⟩ := h
      cases r with
      | value v => exact c.oneOutcome_deliver no _
      | fault f => exact c.oneOutcome_deliver no _
      | status first =>
        obtain ⟨ph, e, started, busy⟩ := holdingWriteStarted_comes Catalog.parityStop packed t
        have second := resumePrimitive_onItsWay (started.phase ▸ busy)
        rw [uartFirst_after_status]
        exact ((second.oneOutcome_last rfl).after started rfl).after c no

/-- An operation but the reserved one issues an event and goes on from there. -/
theorem exec_started {i : Instr} {s t : State} (h : exec i s = .next t) :
    (∃ q u ph e, Comes s u ph [.wire e] ∧ ph ≠ .idle ∧ t = Sequence.after q (resumePrimitive u)) ∨
      t = s.toIdle.deliver (.fault .illegalOp) := by
  rcases exec_shape h with ⟨a, rfl⟩ | ⟨a, rfl⟩ | ⟨a, v, -, rfl⟩ | ⟨b, p, q, rfl⟩ | rfl
  · obtain ⟨ph, e, c, busy⟩ := inputReadStarted_comes a s
    exact .inl ⟨.single, _, ph, e, c, busy, by rw [readInput_eq]; rfl⟩
  · obtain ⟨ph, e, c, busy⟩ := holdingReadStarted_comes a s
    exact .inl ⟨.single, _, ph, e, c, busy, by rw [readHolding_eq]; rfl⟩
  · obtain ⟨ph, e, c, busy⟩ := holdingWriteStarted_comes a v s
    exact .inl ⟨.single, _, ph, e, c, busy, by rw [writeHolding_eq]; rfl⟩
  · obtain ⟨ph, e, c, busy⟩ := holdingWriteStarted_comes Catalog.baudRate b s
    exact .inl ⟨.uartFirst _, _, ph, e, c, busy, by rw [writeHolding_eq]; rfl⟩
  · exact .inr rfl

/-- Settles O51: the primitives deliver nothing themselves, and each place of CONFIG_UART delivers once. -/
theorem oneOutcomePerOperation : Obligations.OneOutcomePerOperation := by
  unfold Obligations.OneOutcomePerOperation
  intro i s t h
  rcases exec_started h with ⟨q, u, ph, e, c, busy, rfl⟩ | rfl
  · exact ((resumePrimitive_onItsWay (c.phase ▸ busy)).oneOutcome q).after c rfl
  · exact .inl ⟨rfl, rfl, _, deliver_outcomes _ _, rfl⟩

/- ### Waiting -/

theorem resumePrimitive_unanswered {s : State} (h : StillUnanswered s) : Unanswered s (resumePrimitive s) := by
  rcases h with ⟨hp | hp, pending⟩ | ⟨hp, pending⟩ | ⟨hp, ho, pending⟩ | ⟨hp, ho, pending⟩
  · rw [resumePrimitive_dbStore hp]; exact dbStoreReturn_unanswered pending
  · rw [resumePrimitive_dbSelect hp]; exact dbSelectReturn_unanswered pending
  · rw [resumePrimitive_dbFetch hp]; exact dbFetchReturn_unanswered pending
  · rw [resumePrimitive_write hp ho]; exact srWriteReturn_unanswered pending
  · rw [resumePrimitive_read hp ho]; exact srReadReturn_unanswered pending

theorem StillUnanswered.busy {s : State} (h : StillUnanswered s) : s.phase ≠ .idle := by
  rcases h with ⟨hp | hp, -⟩ | ⟨hp, -⟩ | ⟨hp, -⟩ | ⟨hp, -⟩ <;> simp [hp]

/-- After CONFIG_UART's second write, or at its end, the place is not its first write. -/
theorem uartSecond_after_sequence (first : Status) (p : Progress) (packed : Word) :
    ((Sequence.uartSecond first).after p).sequence ≠ .uartFirst packed := by
  cases p <;> nofun

/-- An operation that is in the same phase and place after going on has put nothing on the trace. -/
theorem OnItsWay.record_of_same {s : State} {p : Progress} (h : OnItsWay s p) (busy : s.phase ≠ .idle)
    (phase : (s.sequence.after p).phase = s.phase) (place : (s.sequence.after p).sequence = s.sequence) :
    (s.sequence.after p).record = s.record := by
  cases p with
  | waiting t =>
    obtain ⟨ph, es, c, -, -, nothing⟩ := h
    rw [after_waiting] at phase ⊢
    obtain rfl := nothing (c.phase.symm.trans phase)
    exact c.record.trans (List.append_nil _)
  | ended r t =>
    obtain ⟨es, c, -⟩ := h
    have ended : ∀ r, (t.deliver r).phase ≠ s.phase := fun _ same => busy (same.symm.trans c.phase)
    cases hq : s.sequence with
    | single => rw [hq] at phase; exact absurd phase (ended _)
    | uartSecond first => rw [hq] at phase; exact absurd phase (ended _)
    | uartFirst packed =>
      rw [hq] at phase place
      cases r with
      | value v => exact absurd phase (ended _)
      | fault f => exact absurd phase (ended _)
      | status first =>
        rw [uartFirst_after_status] at place
        exact absurd place (uartSecond_after_sequence _ _ _)

/-- Settles O36: an unanswered primitive stays as it is, and every other course of an operation leaves its phase or its
place. -/
theorem waitingRepeatsNothing : Obligations.WaitingRepeatsNothing := by
  unfold Obligations.WaitingRepeatsNothing
  refine ⟨fun s h => ?_, fun s t busy h phase place => ?_⟩
  · have busy := StillUnanswered.busy h
    obtain ⟨t, waits, c, -⟩ := resumePrimitive_unanswered (s := s.deviceRuns) h
    refine ⟨t.withSequence s.sequence, ?_, ((deviceRuns_comes s).trans c).waits _⟩
    rw [step_busy busy, resume_eq_after, waits, after_waiting, deviceRuns_sequence]
  · rw [step_busy busy] at h
    obtain rfl := Host.Outcome.next.inj h
    rw [resume_eq_after] at phase place ⊢
    exact (resumePrimitive_onItsWay (s := s.deviceRuns) busy).record_of_same busy phase place

/- ### Serial reads -/

/-- From `s` to `t` a serial read has come to wait, or has ended in a value. -/
def ReadOrWaiting (s t : State) : Prop :=
  t.phase = .srXfer ∧ outcomes t.record = outcomes s.record ∨
    t.phase = .idle ∧ ∃ v, outcomes t.record = outcomes s.record ++ [.value v]

theorem Ends.readOrWaiting {s : State} {p : Progress} {es : List Entry} {v : Word} (h : Ends s p es (.value v))
    (no : outcomes es = []) : ReadOrWaiting s p.single := by
  obtain ⟨t, rfl, c⟩ := h
  exact .inr ⟨c.phase, v, (deliver_outcomes _ t).trans (by rw [c.outcomes no])⟩

/-- A serial read is its collaborator's reply, whatever it is, which is a value (R162). -/
theorem srReadReturn_readOrWaiting {s u : State} {e : WireEvent} (started : Comes s u .srXfer [.wire e]) :
    ReadOrWaiting s (srReadReturn u).single := by
  rcases srReadReturn_cases u with ⟨l, ends⟩ | ends | ⟨t, waits, c, -⟩
  · exact (ends.after started).readOrWaiting rfl
  · exact (ends.after started).readOrWaiting rfl
  · rw [waits]
    exact .inl ⟨c.phase.trans started.phase, (started.trans c).outcomes rfl⟩

/-- Settles O33: RDI and RDH on SERIAL are such a read. -/
theorem serialReadNeverFaults : Obligations.SerialReadNeverFaults := by
  unfold Obligations.SerialReadNeverFaults
  intro s a x serial i hi
  simp only [List.mem_cons, List.not_mem_nil, or_false] at hi
  rcases hi with rfl | rfl
  · refine ⟨_, rfl, ?_⟩
    rw [readInput_serial a serial]
    exact srReadReturn_readOrWaiting (readStarted_comes _ _ _ s)
  · refine ⟨_, rfl, ?_⟩
    rw [readHolding_serial a serial]
    exact srReadReturn_readOrWaiting (readStarted_comes _ _ _ s)

/- ### The direct bus: no FAIL, and both delays -/

/-- What an operation on the direct bus may have delivered from `s` to `t`: nothing yet, a fault, OK, or a value that
has cost both delays. -/
def DirectResult (s t : State) : Prop :=
  outcomes t.record = outcomes s.record ∨
    ∃ r, outcomes t.record = outcomes s.record ++ [r] ∧
      ((∃ c, r = .fault c) ∨ r = .status .ok ∨
        ∃ v, r = .value v ∧ delayMs t.record = delayMs s.record + (s.cfg.settleMs + s.cfg.postMs))

theorem Comes.directResult_wait {s t : State} {ph : Phase} {es : List Entry} (h : Comes s t ph es)
    (no : Machine.outcomes es = []) (q : Sequence) : DirectResult s (t.withSequence q) := .inl (h.outcomes no)

theorem Comes.directResult_fault {s t : State} {es : List Entry} (h : Comes s t .idle es)
    (no : Machine.outcomes es = []) (c : Cause) : DirectResult s (t.deliver (.fault c)) :=
  .inr ⟨_, (deliver_outcomes _ t).trans (by rw [h.outcomes no]), .inl ⟨c, rfl⟩⟩

theorem Comes.directResult_ok {s t : State} {es : List Entry} (h : Comes s t .idle es)
    (no : Machine.outcomes es = []) : DirectResult s (t.deliver (.status .ok)) :=
  .inr ⟨_, (deliver_outcomes _ t).trans (by rw [h.outcomes no]), .inr (.inl rfl)⟩

theorem fetchIssued_comes (op : Primitive) (a e : Word) (s : State) :
    Comes s (fetchIssued op a e s) .dbFetch [.wire (.blockWrite s.cfg.devAddr (selCmd e) [lowByte e]), .answer .done,
      .wire (.delay s.cfg.settleMs), .wire (.blockRead s.cfg.devAddr 2)] :=
  .of rfl rfl rfl rfl rfl rfl rfl

/-- A read's value comes after the settle and the post delay (R131, R282). -/
theorem dbRead_directResult (op : Primitive) (a e : Word) (s : State) : DirectResult s (dbRead op a e s).single := by
  have selected := selectStarted_comes op a e s
  have issued := fetchIssued_comes op a e s
  rcases h : s.blockWriteReply.answer with u | _ | _
  · rw [dbRead_done op a e h]
    rcases dbFetchReturn_cases (fetchIssued op a e s) with
      ⟨b0, b1, t, value, c⟩ | ⟨ans, -, t, failed, c⟩ | ⟨t, waits, c, -⟩
    · rw [value]
      have ended := issued.trans c
      have cost : delayMs (t.deliver (.value (combine b0 b1))).record =
          delayMs s.record + (s.cfg.settleMs + s.cfg.postMs) := by
        rw [deliver_record, ended.record]
        simp [delayMs, wireEvents_append]
      exact .inr ⟨_, (deliver_outcomes _ t).trans (by rw [ended.outcomes rfl]), .inr (.inr ⟨_, rfl, cost⟩)⟩
    · rw [failed]
      exact (issued.trans c).directResult_fault rfl _
    · rw [waits]
      exact (issued.trans c).directResult_wait rfl _
  · rw [dbRead_failed op a e h]
    exact ((selected.trans (selectAnswered_comes _ _)).closed .failed).directResult_fault rfl _
  · rw [dbRead_pending op a e h]
    exact (selected.trans (selectAnswered_comes _ _)).directResult_wait rfl _

/-- Where no second write is to follow, and none has ended FAIL before, a store is OK or faults (D13). -/
theorem dbStoreReturn_directResult {s u : State} {ph : Phase} {es : List Entry} (c : Comes s u ph es)
    (no : outcomes es = []) {q : Sequence} (hq : q = .single ∨ q = .uartSecond .ok) :
    DirectResult s (q.after (dbStoreReturn u)) := by
  rcases dbStoreReturn_cases u with ⟨t, done, k⟩ | ⟨t, failed, k⟩ | ⟨t, waits, k, -⟩
  · rw [done]
    have ended := (c.trans k).directResult_ok (by rw [outcomes_append, no]; rfl)
    rcases hq with rfl | rfl <;> exact ended
  · rw [failed, after_fault]
    exact (c.trans k).directResult_fault (by rw [outcomes_append, no]; rfl) _
  · rw [waits, after_waiting]
    exact (c.trans k).directResult_wait (by rw [outcomes_append, no]; rfl) _

theorem dbWrh_directResult {s u : State} {ph : Phase} {es : List Entry} (c : Comes s u ph es)
    (no : outcomes es = []) (a v : Word) {q : Sequence} (hq : q = .single ∨ q = .uartSecond .ok) :
    DirectResult s (q.after (dbWrh a v u)) :=
  dbStoreReturn_directResult (c.trans (storeStarted_comes a v u)) (by rw [outcomes_append, no]; rfl) hq

theorem uartAfterFirst_directResult {s : State} (hd : s.cfg.transport = .direct) (b packed : Word) :
    DirectResult s (uartAfterFirst packed (dbWrh Catalog.baudRate b s)) := by
  have started := storeStarted_comes Catalog.baudRate b s
  rcases dbStoreReturn_cases (storeStarted Catalog.baudRate b s) with ⟨t, done, k⟩ | ⟨t, failed, k⟩ | ⟨t, waits, k, -⟩
  · have ended := started.trans k
    have direct : t.cfg.transport = .direct := ended.keeps.cfg ▸ hd
    rw [show dbWrh Catalog.baudRate b s = _ from done]
    have second := dbWrh_directResult ended rfl Catalog.parityStop packed (q := .uartSecond .ok) (.inr rfl)
    rwa [← writeHolding_direct _ _ direct] at second
  · rw [show dbWrh Catalog.baudRate b s = _ from failed]
    exact (started.trans k).directResult_fault rfl _
  · rw [show dbWrh Catalog.baudRate b s = _ from waits]
    exact (started.trans k).directResult_wait rfl _

theorem exec_directResult {i : Instr} {s t : State} (hd : s.cfg.transport = .direct) (h : exec i s = .next t) :
    DirectResult s t := by
  rcases exec_shape h with ⟨a, rfl⟩ | ⟨a, rfl⟩ | ⟨a, v, -, rfl⟩ | ⟨b, p, q, rfl⟩ | rfl
  · rw [readInput_direct a hd]
    exact dbRead_directResult _ _ _ s
  · rw [readHolding_direct a hd]
    exact dbRead_directResult _ _ _ s
  · rw [writeHolding_direct a v hd]
    exact dbStoreReturn_directResult (storeStarted_comes a v s) rfl (q := .single) (.inl rfl)
  · rw [writeHolding_direct _ b hd]
    exact uartAfterFirst_directResult hd b _
  · exact .inr ⟨_, deliver_outcomes _ _, .inl ⟨_, rfl⟩⟩

/-- An operation on the direct bus that has delivered `r` can only have delivered it as `DirectResult` says. -/
theorem DirectResult.of_delivered {s t : State} {r : Result} (h : DirectResult s t)
    (delivered : outcomes t.record = outcomes s.record ++ [r]) :
    (∃ c, r = .fault c) ∨ r = .status .ok ∨
      ∃ v, r = .value v ∧ delayMs t.record = delayMs s.record + (s.cfg.settleMs + s.cfg.postMs) := by
  rcases h with none | ⟨r', one, what⟩
  · simp [none] at delivered
  · obtain rfl : r' = r := by simpa [one] using delivered
    exact what

/-- Settles O50: a value is the outcome of a direct-bus read alone. -/
theorem directReadTakesAtLeast250Ms : Obligations.DirectReadTakesAtLeast250Ms := by
  unfold Obligations.DirectReadTakesAtLeast250Ms
  intro i s t v hd h delivered
  rcases (exec_directResult hd h).of_delivered delivered with ⟨c, no⟩ | no | ⟨w, -, cost⟩
  · cases no
  · cases no
  · exact ⟨cost, by omega⟩

/- ### Lawful traces: no FAIL on the direct bus, and what is before a block read -/

/-- A stage that may end in FAIL is one of the serial transport. -/
theorem transport_of_stageResult_fail {g : Stage} (h : stageResult g = some (.status .fail)) :
    g.transport? = some .serial := by
  cases g <;> simp_all [stageResult, Stage.transport?]

/-- Induction over the trace, from any stage of the direct bus. -/
theorem fail_not_mem_of_foldl_ne_broken {c : Cfg} (hd : c.transport = .direct) {l : List Entry} {g : Stage}
    (fits : StageFits c g) (h : l.foldl (stageNext c) g ≠ .broken) : .status .fail ∉ outcomes l := by
  induction l generalizing g with
  | nil => simp
  | cons e l ih =>
    rw [List.foldl_cons] at h
    have unbroken : stageNext c g e ≠ .broken := fun hb => h (by rw [hb, foldl_broken])
    have later : .status .fail ∉ outcomes l := ih (stageNext_fits fits unbroken) h
    cases e with
    | wire w => exact later
    | answer a => exact later
    | outcome r =>
      rw [outcomes_outcome, List.mem_cons, not_or]
      refine ⟨?_, later⟩
      rintro rfl
      have result : stageResult g = some (.status .fail) := of_decide_eq_true (goesTo_ne unbroken).1
      cases hd.symm.trans (fits _ (transport_of_stageResult_fail result))

/-- Settles O31: by `DirectResult` for one operation, by the grammar of the trace for a lawful run. -/
theorem directNeverReportsFail : Obligations.DirectNeverReportsFail := by
  unfold Obligations.DirectNeverReportsFail
  refine ⟨fun i s t r hd h delivered => ?_, fun s l hd => ?_⟩
  · rcases (exec_directResult hd h).of_delivered delivered with ⟨c, rfl⟩ | rfl | ⟨v, rfl, -⟩ <;> nofun
  · obtain ⟨trace, unbroken, -⟩ := l
    exact fail_not_mem_of_foldl_ne_broken hd (stageFits_quiet _)
      (trace ▸ unbroken : traceStage s.cfg s.record ≠ .broken)

end Sys2Proof.Machine
end

section
/-! PROOFS of the order of a direct-bus read on a lawful trace (R142): what the grammar lets stand before a block
read. -/

namespace Sys2Proof.Machine

/-- What a trace ends in at each stage of a direct-bus read up to its block read: the select, its completion, the settle
delay. Of the other stages nothing is said. -/
def TailFits (c : Cfg) (l : List Entry) : Stage → Prop
  | .selecting => ∃ l' cmd al, l = l' ++ [.wire (.blockWrite c.devAddr cmd [al])]
  | .selected => ∃ l' cmd al, l = l' ++ [.wire (.blockWrite c.devAddr cmd [al]), .answer .done]
  | .settled => ∃ l' cmd al,
      l = l' ++ [.wire (.blockWrite c.devAddr cmd [al]), .answer .done, .wire (.delay c.settleMs)]
  | _ => True

theorem tailFits_goesTo {c : Cfg} {l : List Entry} {ok : Bool} {g : Stage} (h : ok = true → TailFits c l g) :
    TailFits c l (goesTo ok g) := by
  cases ok
  · trivial
  · exact h rfl

theorem tailFits_fromQuiet (c : Cfg) (l : List Entry) (w : WireEvent) :
    TailFits c (l ++ [.wire w]) (stageFromQuiet c w) := by
  cases w with
  | blockWrite d cmd bytes =>
    by_cases two : bytes.length = 2
    · simp only [stageFromQuiet, if_pos two]
      exact tailFits_goesTo fun _ => trivial
    · simp only [stageFromQuiet, if_neg two]
      refine tailFits_goesTo fun ok => ?_
      have ⟨⟨_, dev⟩, one⟩ : (c.transport = .direct ∧ d = c.devAddr) ∧ bytes.length = 1 := by simpa using ok
      obtain ⟨al, rfl⟩ := List.length_eq_one_iff.mp one
      exact ⟨l, cmd, al, by rw [dev]⟩
  | blockRead d n => trivial
  | delay ms => trivial
  | rtuWriteHolding d reg v => exact tailFits_goesTo fun _ => trivial
  | rtuReadHolding d reg n => exact tailFits_goesTo fun _ => trivial
  | rtuReadInput d reg n => exact tailFits_goesTo fun _ => trivial

theorem tailFits_wire {c : Cfg} {l : List Entry} {g : Stage} (w : WireEvent) (h : TailFits c l g) :
    TailFits c (l ++ [.wire w]) (stageOnWire c g w) := by
  cases g with
  | quiet => exact tailFits_fromQuiet c l w
  | selected =>
    refine tailFits_goesTo fun ok => ?_
    obtain ⟨l', cmd, al, rfl⟩ := h
    exact ⟨l', cmd, al, by rw [of_decide_eq_true ok, List.append_assoc]; rfl⟩
  | settled => exact tailFits_goesTo fun _ => trivial
  | fetched v => exact tailFits_goesTo fun _ => trivial
  | stored cmd =>
    cases w with
    | blockWrite d cmd2 bytes => exact tailFits_goesTo fun _ => trivial
    | _ => trivial
  | wrote reg st =>
    cases w with
    | rtuWriteHolding d reg2 v => exact tailFits_goesTo fun _ => trivial
    | _ => trivial
  | _ => trivial

theorem tailFits_answer {c : Cfg} {l : List Entry} {g : Stage} (a : WireAnswer) (h : TailFits c l g) :
    TailFits c (l ++ [.answer a]) (stageOnAnswer g a) := by
  cases g with
  | selecting =>
    cases a with
    | done =>
      obtain ⟨l', cmd, al, rfl⟩ := h
      exact ⟨l', cmd, al, List.append_assoc _ [_] [_]⟩
    | _ => trivial
  | fetching =>
    cases a with
    | bytes bytes =>
      simp only [stageOnAnswer, stageFromFetching]
      cases combineBytes bytes <;> trivial
    | _ => trivial
  | storing cmd => cases a <;> trivial
  | storingSecond => cases a <;> trivial
  | reading => cases a <;> trivial
  | writing reg => cases a <;> trivial
  | writingSecond first => cases a <;> trivial
  | _ => trivial

theorem tailFits_next {c : Cfg} {l : List Entry} {g : Stage} (e : Entry) (h : TailFits c l g) :
    TailFits c (l ++ [e]) (stageNext c g e) := by
  cases e with
  | wire w => exact tailFits_wire w h
  | answer a => exact tailFits_answer a h
  | outcome r => exact tailFits_goesTo fun _ => trivial

/-- Induction over the trace, entry by entry from its beginning. -/
theorem tailFits_traceStage (c : Cfg) (l : List Entry) : TailFits c l (traceStage c l) := by
  induction l using List.reverseRecOn with
  | nil => trivial
  | append_singleton l e ih =>
    rw [traceStage_append]
    exact tailFits_next e ih

/-- A block read is lawful after the settle delay only, to the own device and for two bytes. -/
theorem stageOnWire_blockRead {c : Cfg} {g : Stage} {d : Byte} {n : Nat}
    (h : stageOnWire c g (.blockRead d n) ≠ .broken) : g = .settled ∧ d = c.devAddr ∧ n = 2 := by
  cases g with
  | settled => exact ⟨rfl, by simpa using of_decide_eq_true (goesTo_ne h).1⟩
  | selected => cases of_decide_eq_true (goesTo_ne h).1
  | fetched v => cases of_decide_eq_true (goesTo_ne h).1
  | _ => exact absurd rfl h

/-- Settles O59: the block read of an unbroken trace stands at the stage after the settle delay, whose tail is known. -/
theorem fetchFollowsSelectAndSettle : Obligations.FetchFollowsSelectAndSettle := by
  unfold Obligations.FetchFollowsSelectAndSettle
  intro s pre post d n l record
  obtain ⟨trace, unbroken, -, -, kept⟩ := l
  have lawful : stageOnWire s.cfg (traceStage s.cfg pre) (.blockRead d n) ≠ .broken := fun hb => by
    rw [← trace, record, traceStage_append, List.foldl_cons, stageNext, hb, foldl_broken] at unbroken
    exact unbroken rfl
  obtain ⟨settled, dev, two⟩ := stageOnWire_blockRead lawful
  have tail := tailFits_traceStage s.cfg pre
  rw [settled] at tail
  exact ⟨dev, two, ((Cfg.delaysKept_iff _).mp kept).1, tail⟩

end Sys2Proof.Machine
end

section
/-! PROOFS of what the reply to a wire event completes: the outcome, the trace, and what the device then holds. -/

namespace Sys2Proof.Machine

open Sys2Proof.Claims

/- ### The model's device and bytes in the terms of the statements -/

theorem inputEff_eq_plusSix (a : Word) : inputEff a = plusSix a := by
  rw [plusSix, ← BitVec.toNat_inj, inputEff_toNat, BitVec.toNat_ofNat]

theorem uptakeWord_eq_held (m : DeviceMove) (v : Word) : uptakeWord m.uptake v = held m v := rfl

/-- A store to a catalogued holding register is what the statements call `sent`. -/
theorem deviceStore_holdAddr (k : Fin Catalog.nHold) (v : Word) (m : DeviceMove) (d : Device) :
    deviceStore (holdAddr k) v m d = sent k v m d := by
  simp only [deviceStore, holdAddr_toNat, uptakeWord_eq_held, k.isLt, dite_true]
  rfl

theorem bothOk_eq_both (st1 st2 : Status) : bothOk st1 st2 = both st1 st2 := by
  cases st1 <;> cases st2 <;> rfl

theorem selectStarted_event (c : Cfg) (e : Word) :
    Entry.wire (.blockWrite c.devAddr (selCmd e) [lowByte e]) = selectOf c e := by
  rw [selectOf, selCmd, highByte_eq_hi, lowByte_eq_lo]

theorem store_event (c : Cfg) (a v : Word) :
    Entry.wire (.blockWrite c.devAddr (lowByte a) (split v)) = storeOf c (lo a) v := by
  rw [storeOf, split_eq_hi_lo, lowByte_eq_lo]

/- ### Outcomes delivered and operations come to wait -/

/-- A primitive operation has ended with `r` and `es` added to the trace, the device then being `d`. -/
def EndsWith (s : State) (p : Progress) (es : List Entry) (r : Result) (d : Device) : Prop :=
  ∃ t, p = .ended r t ∧ Comes s t .idle es ∧ t.device = d

/-- From `s` to `t` an operation has delivered `r` with `es` on the trace, the device then being `d`. -/
def DeliversWith (s t : State) (es : List Entry) (r : Result) (d : Device) : Prop :=
  Delivers s t es r ∧ t.device = d

/-- From `s` to `t` an operation has come to wait with `es` on the trace, its latches then being `l`. -/
def WaitsWith (s t : State) (ph : Phase) (q : Sequence) (es : List Entry) (l : Latch) : Prop :=
  Waits s t ph q es ∧ t.latch = l

theorem DeliversWith.after {s u t : State} {ph : Phase} {es fs : List Entry} {r : Result} {d : Device}
    (c : Comes s u ph es) (h : DeliversWith u t fs r d) : DeliversWith s t (es ++ fs) r d := by
  obtain ⟨⟨record, response, phase, place, cfg, link, inbox⟩, device⟩ := h
  exact ⟨⟨by rw [record, c.record, List.append_assoc s.record], response, phase, place, cfg.trans c.keeps.cfg,
    link.trans c.keeps.link, inbox.trans c.keeps.inbox⟩, device⟩

theorem WaitsWith.after {s u t : State} {ph ph' : Phase} {q : Sequence} {es fs : List Entry} {l : Latch}
    (c : Comes s u ph es) (h : WaitsWith u t ph' q fs l) : WaitsWith s t ph' q (es ++ fs) l := by
  obtain ⟨⟨record, response, phase, place, cfg, link, inbox⟩, latch⟩ := h
  exact ⟨⟨by rw [record, c.record, List.append_assoc], response.trans c.keeps.response, phase, place,
    cfg.trans c.keeps.cfg, link.trans c.keeps.link, inbox.trans c.keeps.inbox⟩, latch⟩

section
variable {s : State} {p : Progress} {es : List Entry} {d : Device}

theorem EndsWith.single {r : Result} (h : EndsWith s p es r d) : DeliversWith s p.single es r d := by
  obtain ⟨t, rfl, c, device⟩ := h
  exact ⟨c.delivers r, device⟩

theorem EndsWith.fault {c : Cause} (q : Sequence) (h : EndsWith s p es (.fault c) d) :
    DeliversWith s (q.after p) es (.fault c) d := by
  obtain ⟨t, rfl, k, device⟩ := h
  rw [after_fault]
  exact ⟨k.delivers _, device⟩

/-- CONFIG_UART's second write having a status, the operation delivers the two combined. -/
theorem EndsWith.second {st : Status} (first : Status) (h : EndsWith s p es (.status st) d) :
    DeliversWith s (uartAfterSecond first p) es (.status (both first st)) d := by
  obtain ⟨t, rfl, c, device⟩ := h
  rw [← bothOk_eq_both]
  exact ⟨c.delivers _, device⟩

theorem Unanswered.waits (q : Sequence) (h : Unanswered s p) : WaitsWith s (q.after p) s.phase q [] s.latch := by
  obtain ⟨t, rfl, c, latch⟩ := h
  rw [after_waiting]
  exact ⟨c.waits q, latch⟩

end

/- ### Replies -/

section
variable {s : State}

theorem dbStoreReturn_done_ends (h : s.blockWriteReply.answer = .returned ()) :
    EndsWith s (dbStoreReturn s) [.answer .done] (.status .ok)
      (deviceStore s.latch.eff s.latch.wdata s.blockWriteReply.move s.device) :=
  ⟨_, dbStoreReturn_done h, (drewBlockWrite_comes _ s).closed .done, rfl⟩

theorem dbStoreReturn_failed_ends (h : s.blockWriteReply.answer = .failed) :
    EndsWith s (dbStoreReturn s) [.answer .failed] (.fault .busFault)
      (deviceStore s.latch.eff s.latch.wdata s.blockWriteReply.move s.device) :=
  ⟨_, dbStoreReturn_failed h, (drewBlockWrite_comes _ s).closed .failed, rfl⟩

theorem srWriteReturn_status_ends {st : Status} (h : s.rtuWriteReply.answer = .returned st) :
    EndsWith s (srWriteReturn s) [.answer (.status st)] (.status st)
      (deviceStore s.latch.eff s.latch.wdata s.rtuWriteReply.move s.device) :=
  ⟨_, srWriteReturn_status h, (drewRtuWrite_comes _ s).closed (.status st), rfl⟩

theorem srWriteReturn_failed_ends (h : s.rtuWriteReply.answer = .failed) :
    EndsWith s (srWriteReturn s) [.answer .failed] (.fault .linkFault)
      (deviceStore s.latch.eff s.latch.wdata s.rtuWriteReply.move s.device) :=
  ⟨_, srWriteReturn_failed h, (drewRtuWrite_comes _ s).closed .failed, rfl⟩

theorem dbSelectReturn_failed_ends (h : s.blockWriteReply.answer = .failed) :
    EndsWith s (dbSelectReturn s) [.answer .failed] (.fault .busFault)
      (deviceSelect s.latch.eff false s.blockWriteReply.move s.device) :=
  ⟨_, dbSelectReturn_failed h, (selectAnswered_comes _ s).closed .failed, rfl⟩

theorem dbFetchReturn_two_ends {b0 b1 : Byte} (h : s.blockReadReply.answer = .returned (.bytes [b0, b1])) :
    EndsWith s (dbFetchReturn s) (bytesAndPost s.cfg b0 b1) (.value (valueOf b0 b1))
      (moved s.nextDrift (moved s.blockReadReply.move.toDrift s.device)) := by
  rw [← combine_eq_valueOf]
  exact ⟨_, dbFetchReturn_two h rfl,
    (fetchAnswered_comes s).trans (.of rfl rfl rfl rfl rfl rfl (List.append_assoc _ [_] [_])), rfl⟩

theorem dbFetchReturn_fails_ends {ans : WireAnswer} (h : FetchFails s ans) :
    EndsWith s (dbFetchReturn s) [.answer ans] (.fault .busFault) (moved s.blockReadReply.move.toDrift s.device) := by
  rcases h with ⟨failed, rfl⟩ | ⟨l, returned, length, rfl⟩
  · exact ⟨_, dbFetchReturn_failed failed, (fetchAnswered_comes s).closed .failed, rfl⟩
  · exact ⟨_, dbFetchReturn_length returned length,
      (fetchAnswered_comes s).trans (.of rfl rfl rfl rfl rfl rfl rfl), rfl⟩

theorem dbPost_ends {b0 b1 : Byte} (h : s.latch.rbuf = [b0, b1]) :
    EndsWith s (dbPost s) [.wire (.delay s.cfg.postMs)] (.value (valueOf b0 b1)) (moved s.nextDrift s.device) := by
  have value : combineBytes s.latch.rbuf = some (valueOf b0 b1) := by rw [h, combineBytes_pair]
  exact ⟨_, dbPost_value value, posted_comes s, rfl⟩

theorem srReadReturn_ends {ans : WireAnswer} {v : Word} (h : SerialReadAnswer s ans v) :
    EndsWith s (srReadReturn s) [.answer ans] (.value v) (moved s.rtuReadReply.move.toDrift s.device) := by
  rcases h with ⟨l, returned, rfl, rfl⟩ | ⟨failed, rfl, rfl⟩
  · exact ⟨_, srReadReturn_bytes returned, (readAnswered_comes s).trans (.of rfl rfl rfl rfl rfl rfl rfl), rfl⟩
  · exact ⟨_, srReadReturn_failed failed, (readAnswered_comes s).closed .failed, rfl⟩

end

/- ### Reads -/

theorem EndsWith.after {s u : State} {p : Progress} {ph : Phase} {es fs : List Entry} {r : Result} {d : Device}
    (c : Comes s u ph es) (h : EndsWith u p fs r d) : EndsWith s p (es ++ fs) r d := by
  obtain ⟨t, ended, k, device⟩ := h
  exact ⟨t, ended, c.trans k, device⟩

section
variable {s : State}

/-- The settle delay and the block read are out, the select having completed. -/
theorem selected_comes (op : Primitive) (a e : Word) (s : State) :
    Comes s (fetchIssued op a e s) .dbFetch (selectOf s.cfg e :: settleAndFetch s.cfg) := by
  rw [← selectStarted_event]
  exact fetchIssued_comes op a e s

theorem selecting_comes (op : Primitive) (a e : Word) (s : State) :
    Comes s (selectStarted op a e s) .dbSelect [selectOf s.cfg e] := by
  rw [← selectStarted_event]
  exact selectStarted_comes op a e s

theorem dbRead_completes (op : Primitive) (a e : Word) {b0 b1 : Byte} (hw : s.blockWriteReply.answer = .returned ())
    (hr : s.blockReadReply.answer = .returned (.bytes [b0, b1])) :
    DirectReadEnds s (dbRead op a e s).single e b0 b1 := by
  rw [dbRead_done op a e hw]
  exact (dbFetchReturn_two_ends (s := fetchIssued op a e s) hr).single.after (selected_comes op a e s)

theorem dbRead_fetch_fails (op : Primitive) (a e : Word) {ans : WireAnswer}
    (hw : s.blockWriteReply.answer = .returned ()) (hr : FetchFails s ans) :
    DirectReadFails s (dbRead op a e s).single e ans := by
  rw [dbRead_done op a e hw]
  exact (dbFetchReturn_fails_ends (s := fetchIssued op a e s) hr).single.after (selected_comes op a e s)

theorem dbRead_select_fails (op : Primitive) (a e : Word) (hw : s.blockWriteReply.answer = .failed) :
    Delivers s (dbRead op a e s).single [selectOf s.cfg e, .answer .failed] (.fault .busFault) ∧
      (dbRead op a e s).single.device.holding = s.device.holding := by
  obtain ⟨delivers, device⟩ :=
    (dbSelectReturn_failed_ends (s := selectStarted op a e s) hw).single.after (selecting_comes op a e s)
  exact ⟨delivers, (congrArg Device.holding device).trans rfl⟩

theorem srRead_completes (op : Primitive) (a : Word) (e : WireEvent) {ans : WireAnswer} {v : Word}
    (h : SerialReadAnswer s ans v) : SerialReadEnds s (srReadReturn (readStarted op a e s)).single e ans v :=
  (srReadReturn_ends (s := readStarted op a e s) h).single.after (readStarted_comes op a e s)

theorem readInput_direct_completes (hd : s.cfg.transport = .direct) (a : Word) {b0 b1 : Byte}
    (hw : s.blockWriteReply.answer = .returned ()) (hr : s.blockReadReply.answer = .returned (.bytes [b0, b1])) :
    DirectReadEnds s (readInput a s).single (plusSix a) b0 b1 := by
  rw [readInput_direct a hd, inputEff_eq_plusSix]
  exact dbRead_completes _ _ _ hw hr

theorem readInput_serial_completes (hs : s.cfg.transport = .serial) (a : Word) {ans : WireAnswer} {v : Word}
    (h : SerialReadAnswer s ans v) :
    SerialReadEnds s (readInput a s).single (.rtuReadInput s.cfg.devAddr a 1) ans v := by
  rw [readInput_serial a hs]
  exact srRead_completes _ _ _ h

theorem readHolding_serial_completes (hs : s.cfg.transport = .serial) (a : Word) {ans : WireAnswer} {v : Word}
    (h : SerialReadAnswer s ans v) :
    SerialReadEnds s (readHolding a s).single (.rtuReadHolding s.cfg.devAddr a 1) ans v := by
  rw [readHolding_serial a hs]
  exact srRead_completes _ _ _ h

end

/-- Settles O15: the select at the address and six, then the two bytes. -/
theorem rdiOnDirectCompletes : Obligations.RdiOnDirectCompletes := by
  unfold Obligations.RdiOnDirectCompletes
  exact fun s a x b0 b1 hd hw hr => ⟨_, rfl, readInput_direct_completes hd a hw hr⟩

/-- Settles O16: as O15, the select at the address itself. -/
theorem rdhOnDirectCompletes : Obligations.RdhOnDirectCompletes := by
  unfold Obligations.RdhOnDirectCompletes
  intro s a x b0 b1 hd hw hr
  refine ⟨_, rfl, ?_⟩
  rw [readHolding_direct a hd]
  exact dbRead_completes _ _ _ hw hr

/-- Settles O19: the reply to the one request is the value. -/
theorem rdiOnSerialCompletes : Obligations.RdiOnSerialCompletes := by
  unfold Obligations.RdiOnSerialCompletes
  exact fun s a x ans v hs h => ⟨_, rfl, readInput_serial_completes hs a h⟩

/-- Settles O20: as O19, of the holding register. -/
theorem rdhOnSerialCompletes : Obligations.RdhOnSerialCompletes := by
  unfold Obligations.RdhOnSerialCompletes
  exact fun s a x ans v hs h => ⟨_, rfl, readHolding_serial_completes hs a h⟩

/-- Settles O23: a getter is the input read of its register. -/
theorem gettersComplete : Obligations.GettersComplete := by
  unfold Obligations.GettersComplete
  exact fun g hg s x => ⟨fun b0 b1 hd hw hr => ⟨_, exec_getter hg x s, readInput_direct_completes hd g.2 hw hr⟩,
    fun ans v hs h => ⟨_, exec_getter hg x s, readInput_serial_completes hs g.2 h⟩⟩

/-- Settles O28: the failed select ends the read, and a select reaches no holding register. -/
theorem failedSelectFaults : Obligations.FailedSelectFaults := by
  unfold Obligations.FailedSelectFaults
  intro s a x hd hw
  refine ⟨⟨_, rfl, ?_⟩, ⟨_, rfl, ?_⟩⟩
  · rw [readInput_direct a hd, inputEff_eq_plusSix]
    exact dbRead_select_fails _ _ _ hw
  · rw [readHolding_direct a hd]
    exact dbRead_select_fails _ _ _ hw

/-- Settles O29: the failed block read ends the read before its post delay. -/
theorem failedFetchFaults : Obligations.FailedFetchFaults := by
  unfold Obligations.FailedFetchFaults
  intro s a x ans hd hw hr
  refine ⟨⟨_, rfl, ?_⟩, ⟨_, rfl, ?_⟩⟩
  · rw [readInput_direct a hd, inputEff_eq_plusSix]
    exact dbRead_fetch_fails _ _ _ hw hr
  · rw [readHolding_direct a hd]
    exact dbRead_fetch_fails _ _ _ hw hr

/-- Settles O32: an error and a short sequence are both answered with 0. -/
theorem serialReadFallsBackToZero : Obligations.SerialReadFallsBackToZero := by
  unfold Obligations.SerialReadFallsBackToZero
  intro s a x ans hs h
  have zero : SerialReadAnswer s ans 0 := by
    rcases h with failed | ⟨l, returned, short, hans⟩
    · exact .inr ⟨failed.1, failed.2, rfl⟩
    · exact .inl ⟨l, returned, hans, (decodeRsp_short short).symm⟩
  exact ⟨⟨_, rfl, readInput_serial_completes hs a zero⟩, ⟨_, rfl, readHolding_serial_completes hs a zero⟩⟩

/- ### Writes -/

section
variable {s : State}

theorem storing_comes (a v : Word) (s : State) : Comes s (storeStarted a v s) .dbStore [storeOf s.cfg (lo a) v] := by
  rw [← store_event]
  exact storeStarted_comes a v s

theorem dbWrh_done_ends (a v : Word) (h : s.blockWriteReply.answer = .returned ()) :
    EndsWith s (dbWrh a v s) [storeOf s.cfg (lo a) v, .answer .done] (.status .ok)
      (deviceStore a v s.blockWriteReply.move s.device) :=
  (dbStoreReturn_done_ends (s := storeStarted a v s) h).after (storing_comes a v s)

theorem dbWrh_failed_ends (a v : Word) (h : s.blockWriteReply.answer = .failed) :
    EndsWith s (dbWrh a v s) [storeOf s.cfg (lo a) v, .answer .failed] (.fault .busFault)
      (deviceStore a v s.blockWriteReply.move s.device) :=
  (dbStoreReturn_failed_ends (s := storeStarted a v s) h).after (storing_comes a v s)

theorem srWrh_status_ends (a v : Word) {st : Status} (h : s.rtuWriteReply.answer = .returned st) :
    EndsWith s (srWrh a v s) [writeOf s.cfg a v, .answer (.status st)] (.status st)
      (deviceStore a v s.rtuWriteReply.move s.device) :=
  (srWriteReturn_status_ends (s := writeStarted a v s) h).after (writeStarted_comes a v s)

theorem srWrh_failed_ends (a v : Word) (h : s.rtuWriteReply.answer = .failed) :
    EndsWith s (srWrh a v s) [writeOf s.cfg a v, .answer .failed] (.fault .linkFault)
      (deviceStore a v s.rtuWriteReply.move s.device) :=
  (srWriteReturn_failed_ends (s := writeStarted a v s) h).after (writeStarted_comes a v s)

/-- Of a device left by a store the statements speak where the address is a catalogued register's. -/
theorem DeliversWith.register {t : State} {es : List Entry} {r : Result} {a v : Word} {m : DeviceMove}
    (h : DeliversWith s t es r (deviceStore a v m s.device)) :
    Delivers s t es r ∧ ∀ k : Fin Catalog.nHold, a = holdAddr k → t.device = sent k v m s.device := by
  refine ⟨h.1, ?_⟩
  rintro k rfl
  rw [h.2, deviceStore_holdAddr]

end

/-- Settles O17: the one block write completes. -/
theorem wrhOnDirectCompletes : Obligations.WrhOnDirectCompletes := by
  unfold Obligations.WrhOnDirectCompletes
  intro s a v hd form hw
  refine ⟨_, exec_wrh v fun _ => form, ?_⟩
  rw [writeHolding_direct a v hd]
  exact (dbWrh_done_ends a v hw).single.register

/-- Settles O30: the one block write fails. -/
theorem failedStoreFaults : Obligations.FailedStoreFaults := by
  unfold Obligations.FailedStoreFaults
  intro s a v hd form hw
  refine ⟨_, exec_wrh v fun _ => form, ?_⟩
  rw [writeHolding_direct a v hd]
  exact (dbWrh_failed_ends a v hw).single.register

/-- On SERIAL every address has a wire form. -/
theorem exec_wrh_serial {s : State} (hs : s.cfg.transport = .serial) (a v : Word) :
    exec (.wrh a v) s = .next (srWrh a v s).single := by
  rw [exec_wrh v (fun hd => by cases hs.symm.trans hd), writeHolding_serial a v hs]

/-- Settles O21: the collaborator's status is the outcome. -/
theorem wrhOnSerialCompletes : Obligations.WrhOnSerialCompletes := by
  unfold Obligations.WrhOnSerialCompletes
  exact fun s a v st hs hw => ⟨_, exec_wrh_serial hs a v, (srWrh_status_ends a v hw).single.register⟩

/-- Settles O34: the collaborator raises. -/
theorem raisingSerialWriteFaults : Obligations.RaisingSerialWriteFaults := by
  unfold Obligations.RaisingSerialWriteFaults
  exact fun s a v hs hw => ⟨_, exec_wrh_serial hs a v, (srWrh_failed_ends a v hw).single.register⟩

/-- Settles O24: a setter is the write of its own holding register. -/
theorem settersComplete : Obligations.SettersComplete := by
  unfold Obligations.SettersComplete
  refine fun g hg s v => ⟨fun hd hw => ⟨_, exec_setter hg v s, ?_⟩, fun st hs hw => ⟨_, exec_setter hg v s, ?_⟩⟩
  · rw [writeHolding_direct _ v hd, ← deviceStore_holdAddr]
    exact (dbWrh_done_ends _ v hw).single
  · rw [writeHolding_serial _ v hs, ← deviceStore_holdAddr]
    exact (srWrh_status_ends _ v hw).single

end Sys2Proof.Machine
end

section
/-! PROOFS about CONFIG_UART, about operations that come to wait, and about how each goes on (43_facade section 3,
60_exceptions section 10). -/

namespace Sys2Proof.Machine

open Sys2Proof.Claims

/- ### The second write of CONFIG_UART on the direct bus -/

section
variable {s : State}

/-- A direct-bus store has completed. -/
def storeDone (s : State) : State :=
  ((s.drewBlockWrite.withDevice (deviceStore s.latch.eff s.latch.wdata s.blockWriteReply.move s.device)).note
    .done).toIdle

theorem storeDone_comes (s : State) : Comes s (storeDone s) .idle [.answer .done] :=
  (drewBlockWrite_comes _ s).closed .done

theorem uartAfterFirst_store (packed : Word) (hd : s.cfg.transport = .direct)
    (h : s.blockWriteReply.answer = .returned ()) :
    uartAfterFirst packed (dbStoreReturn s) = uartAfterSecond .ok (dbWrh (holdAddr 2) packed (storeDone s)) := by
  rw [dbStoreReturn_done h, ← writeHolding_direct _ _ (s := storeDone s) hd]
  rfl

theorem uartAfterFirst_store_done (packed : Word) (hd : s.cfg.transport = .direct)
    (h : s.blockWriteReply.answer = .returned ()) (h2 : (secondBlockWrite s).answer = .returned ()) :
    DeliversWith s (uartAfterFirst packed (dbStoreReturn s)) [.answer .done, storeOf s.cfg 0x02 packed, .answer .done]
      (.status .ok) (sent 2 packed (secondBlockWrite s).move
        (deviceStore s.latch.eff s.latch.wdata s.blockWriteReply.move s.device)) := by
  rw [uartAfterFirst_store packed hd h, ← deviceStore_holdAddr]
  exact ((dbWrh_done_ends (s := storeDone s) _ packed h2).second .ok).after (storeDone_comes s)

theorem uartAfterFirst_store_failed (packed : Word) (hd : s.cfg.transport = .direct)
    (h : s.blockWriteReply.answer = .returned ()) (h2 : (secondBlockWrite s).answer = .failed) :
    DeliversWith s (uartAfterFirst packed (dbStoreReturn s)) [.answer .done, storeOf s.cfg 0x02 packed, .answer .failed]
      (.fault .busFault) (sent 2 packed (secondBlockWrite s).move
        (deviceStore s.latch.eff s.latch.wdata s.blockWriteReply.move s.device)) := by
  rw [uartAfterFirst_store packed hd h, ← deviceStore_holdAddr]
  exact ((dbWrh_failed_ends (s := storeDone s) _ packed h2).fault (.uartSecond .ok)).after (storeDone_comes s)

theorem uartAfterFirst_store_waits (packed : Word) (hd : s.cfg.transport = .direct)
    (h : s.blockWriteReply.answer = .returned ()) (h2 : (secondBlockWrite s).answer = .pending) :
    WaitsWith s (uartAfterFirst packed (dbStoreReturn s)) .dbStore (.uartSecond .ok)
      [.answer .done, storeOf s.cfg 0x02 packed] (storeStarted 2 packed (storeDone s)).latch := by
  rw [uartAfterFirst_store packed hd h]
  exact ((dbStoreReturn_unanswered (s := storeStarted 2 packed (storeDone s)) h2).waits (.uartSecond .ok)).after
    ((storeDone_comes s).trans (storing_comes 2 packed _))

/- ### The second write of CONFIG_UART on the serial link -/

/-- A serial write has ended with a status. -/
def writeDone (st : Status) (s : State) : State :=
  ((s.drewRtuWrite.withDevice (deviceStore s.latch.eff s.latch.wdata s.rtuWriteReply.move s.device)).note
    (.status st)).toIdle

theorem writeDone_comes (st : Status) (s : State) : Comes s (writeDone st s) .idle [.answer (.status st)] :=
  (drewRtuWrite_comes _ s).closed (.status st)

theorem uartAfterFirst_write (packed : Word) {st : Status} (hs : s.cfg.transport = .serial)
    (h : s.rtuWriteReply.answer = .returned st) :
    uartAfterFirst packed (srWriteReturn s) = uartAfterSecond st (srWrh (holdAddr 2) packed (writeDone st s)) := by
  rw [srWriteReturn_status h, ← writeHolding_serial _ _ (s := writeDone st s) hs]
  rfl

theorem uartAfterFirst_write_status (packed : Word) {st st2 : Status} (hs : s.cfg.transport = .serial)
    (h : s.rtuWriteReply.answer = .returned st) (h2 : (secondRtuWrite s).answer = .returned st2) :
    DeliversWith s (uartAfterFirst packed (srWriteReturn s))
      [.answer (.status st), writeOf s.cfg 0x0002 packed, .answer (.status st2)] (.status (both st st2))
      (sent 2 packed (secondRtuWrite s).move
        (deviceStore s.latch.eff s.latch.wdata s.rtuWriteReply.move s.device)) := by
  rw [uartAfterFirst_write packed hs h, ← deviceStore_holdAddr]
  exact ((srWrh_status_ends (s := writeDone st s) _ packed h2).second st).after (writeDone_comes st s)

theorem uartAfterFirst_write_failed (packed : Word) {st : Status} (hs : s.cfg.transport = .serial)
    (h : s.rtuWriteReply.answer = .returned st) (h2 : (secondRtuWrite s).answer = .failed) :
    DeliversWith s (uartAfterFirst packed (srWriteReturn s))
      [.answer (.status st), writeOf s.cfg 0x0002 packed, .answer .failed] (.fault .linkFault)
      (sent 2 packed (secondRtuWrite s).move
        (deviceStore s.latch.eff s.latch.wdata s.rtuWriteReply.move s.device)) := by
  rw [uartAfterFirst_write packed hs h, ← deviceStore_holdAddr]
  exact ((srWrh_failed_ends (s := writeDone st s) _ packed h2).fault (.uartSecond st)).after (writeDone_comes st s)

theorem uartAfterFirst_write_waits (packed : Word) {st : Status} (hs : s.cfg.transport = .serial)
    (h : s.rtuWriteReply.answer = .returned st) (h2 : (secondRtuWrite s).answer = .pending) :
    WaitsWith s (uartAfterFirst packed (srWriteReturn s)) .srXfer (.uartSecond st)
      [.answer (.status st), writeOf s.cfg 0x0002 packed] (writeStarted 2 packed (writeDone st s)).latch := by
  rw [uartAfterFirst_write packed hs h]
  exact ((srWriteReturn_unanswered (s := writeStarted 2 packed (writeDone st s)) h2).waits (.uartSecond st)).after
    ((writeDone_comes st s).trans (writeStarted_comes 2 packed _))

/- ### CONFIG_UART in its own step -/

theorem packUart_eq_valueOf (p q : Byte) : packUart p q = valueOf p q := combine_eq_valueOf p q

theorem storeOf_valueOf (c : Cfg) (cmd p q : Byte) :
    storeOf c cmd (valueOf p q) = .wire (.blockWrite c.devAddr cmd [p, q]) := by
  rw [storeOf, ← split_eq_hi_lo, ← combine_eq_valueOf, split, highByte_combine, lowByte_combine]

theorem exec_configUart_direct (hd : s.cfg.transport = .direct) (b : Word) (p q : Byte) :
    exec (.configUart b p q) s =
      .next (uartAfterFirst (valueOf p q) (dbStoreReturn (storeStarted (holdAddr 1) b s))) := by
  rw [← packUart_eq_valueOf]
  exact congrArg (fun w => Host.Outcome.next (uartAfterFirst _ w)) (writeHolding_direct _ b hd)

theorem exec_configUart_serial (hs : s.cfg.transport = .serial) (b : Word) (p q : Byte) :
    exec (.configUart b p q) s =
      .next (uartAfterFirst (valueOf p q) (srWriteReturn (writeStarted (holdAddr 1) b s))) := by
  rw [← packUart_eq_valueOf]
  exact congrArg (fun w => Host.Outcome.next (uartAfterFirst _ w)) (writeHolding_serial _ b hs)

end

/-- Settles O25: on each transport the first write's status leads to the second write. -/
theorem configUartCompletes : Obligations.ConfigUartCompletes := by
  unfold Obligations.ConfigUartCompletes
  refine fun s b p q => ⟨fun hd h1 h2 => ⟨_, exec_configUart_direct hd b p q, ?_⟩,
    fun st1 st2 hs h1 h2 => ⟨_, exec_configUart_serial hs b p q, ?_⟩⟩
  · rw [← storeOf_valueOf s.cfg 0x02 p q, ← deviceStore_holdAddr 1]
    exact (uartAfterFirst_store_done (s := storeStarted _ b s) _ hd h1 h2).after (storing_comes _ b s)
  · rw [← deviceStore_holdAddr 1]
    exact (uartAfterFirst_write_status (s := writeStarted _ b s) _ hs h1 h2).after (writeStarted_comes _ b s)

/-- Settles O26: a fault of the first write ends the operation at once, one of the second after the first is done. -/
theorem configUartStopsAtFault : Obligations.ConfigUartStopsAtFault := by
  unfold Obligations.ConfigUartStopsAtFault
  refine fun s b p q => ⟨fun hd h => ⟨_, exec_configUart_direct hd b p q, ?_⟩,
    fun hd h1 h2 => ⟨_, exec_configUart_direct hd b p q, ?_⟩, fun hs h => ⟨_, exec_configUart_serial hs b p q, ?_⟩,
    fun st1 hs h1 h2 => ⟨_, exec_configUart_serial hs b p q, ?_⟩⟩
  · rw [← deviceStore_holdAddr]
    exact (dbWrh_failed_ends _ b h).fault (.uartFirst _)
  · rw [← storeOf_valueOf s.cfg 0x02 p q, ← deviceStore_holdAddr 1]
    exact (uartAfterFirst_store_failed (s := storeStarted _ b s) _ hd h1 h2).after (storing_comes _ b s)
  · rw [← deviceStore_holdAddr]
    exact (srWrh_failed_ends _ b h).fault (.uartFirst _)
  · rw [← deviceStore_holdAddr 1]
    exact (uartAfterFirst_write_failed (s := writeStarted _ b s) _ hs h1 h2).after (writeStarted_comes _ b s)

/- ### Operations that come to wait in their own step -/

section
variable {s : State}

theorem dbRead_waits_select (op : Primitive) (a e : Word) (h : s.blockWriteReply.answer = .pending) :
    WaitsWith s (dbRead op a e s).single .dbSelect .single [selectOf s.cfg e] (selectStarted op a e s).latch :=
  ((dbSelectReturn_unanswered (s := selectStarted op a e s) h).waits .single).after (selecting_comes op a e s)

theorem dbRead_waits_fetch (op : Primitive) (a e : Word) (h : s.blockWriteReply.answer = .returned ())
    (hr : s.blockReadReply.answer = .pending) :
    Waits s (dbRead op a e s).single .dbFetch .single (selectOf s.cfg e :: settleAndFetch s.cfg) := by
  rw [dbRead_done op a e h, ← List.append_nil (_ :: _)]
  exact (((dbFetchReturn_unanswered (s := fetchIssued op a e s) hr).waits .single).after (selected_comes op a e s)).1

theorem srRead_waits (op : Primitive) (a : Word) (e : WireEvent) (h : s.rtuReadReply.answer = .pending) :
    WaitsWith s (srReadReturn (readStarted op a e s)).single .srXfer .single [.wire e] (readStarted op a e s).latch :=
  ((srReadReturn_unanswered (s := readStarted op a e s) h).waits .single).after (readStarted_comes op a e s)

theorem dbWrh_waits (q : Sequence) (a v : Word) (h : s.blockWriteReply.answer = .pending) :
    WaitsWith s (q.after (dbWrh a v s)) .dbStore q [storeOf s.cfg (lo a) v] (storeStarted a v s).latch :=
  ((dbStoreReturn_unanswered (s := storeStarted a v s) h).waits q).after (storing_comes a v s)

theorem srWrh_waits (q : Sequence) (a v : Word) (h : s.rtuWriteReply.answer = .pending) :
    WaitsWith s (q.after (srWrh a v s)) .srXfer q [writeOf s.cfg a v] (writeStarted a v s).latch :=
  ((srWriteReturn_unanswered (s := writeStarted a v s) h).waits q).after (writeStarted_comes a v s)

end

section
variable {s t : State} {ph : Phase} {q : Sequence} {es : List Entry} {l : Latch}

theorem WaitsWith.eff (h : WaitsWith s t ph q es l) : Waits s t ph q es ∧ t.latch.eff = l.eff :=
  ⟨h.1, congrArg Latch.eff h.2⟩

theorem WaitsWith.effData (h : WaitsWith s t ph q es l) :
    Waits s t ph q es ∧ t.latch.eff = l.eff ∧ t.latch.wdata = l.wdata :=
  ⟨h.1, congrArg Latch.eff h.2, congrArg Latch.wdata h.2⟩

theorem WaitsWith.opEff (h : WaitsWith s t ph q es l) :
    Waits s t ph q es ∧ t.latch.op = l.op ∧ t.latch.eff = l.eff :=
  ⟨h.1, congrArg Latch.op h.2, congrArg Latch.eff h.2⟩

theorem WaitsWith.opEffData (h : WaitsWith s t ph q es l) :
    Waits s t ph q es ∧ t.latch.op = l.op ∧ t.latch.eff = l.eff ∧ t.latch.wdata = l.wdata :=
  ⟨h.1, congrArg Latch.op h.2, congrArg Latch.eff h.2, congrArg Latch.wdata h.2⟩

end

/-- Settles O35: the primitive that has not returned leaves the operation where it issued its event. -/
theorem unreturnedPrimitiveKeepsPhase : Obligations.UnreturnedPrimitiveKeepsPhase := by
  unfold Obligations.UnreturnedPrimitiveKeepsPhase
  intro s a v x b p q
  refine ⟨fun hd h => ?_, fun hd h hr => ?_, fun hd h h2 => ?_, fun hs h => ?_, fun hs h => ?_, fun st hs h h2 => ?_⟩
  · refine ⟨⟨_, rfl, ?_⟩, ⟨_, rfl, ?_⟩, fun form => ⟨_, exec_wrh v fun _ => form, ?_⟩,
      ⟨_, exec_configUart_direct hd b p q, (dbWrh_waits (.uartFirst _) (holdAddr 1) b h).effData⟩⟩
    · rw [readInput_direct a hd, inputEff_eq_plusSix]
      exact (dbRead_waits_select _ _ _ h).eff
    · rw [readHolding_direct a hd]
      exact (dbRead_waits_select _ _ _ h).eff
    · rw [writeHolding_direct a v hd]
      exact (dbWrh_waits .single a v h).effData
  · refine ⟨⟨_, rfl, ?_⟩, ⟨_, rfl, ?_⟩⟩
    · rw [readInput_direct a hd, inputEff_eq_plusSix]
      exact dbRead_waits_fetch _ _ _ h hr
    · rw [readHolding_direct a hd]
      exact dbRead_waits_fetch _ _ _ h hr
  · exact ⟨_, exec_configUart_direct hd b p q,
      ((uartAfterFirst_store_waits (s := storeStarted _ b s) _ hd h h2).after (storing_comes (holdAddr 1) b s)).effData⟩
  · refine ⟨⟨_, rfl, ?_⟩, ⟨_, rfl, ?_⟩⟩
    · rw [readInput_serial a hs]
      exact (srRead_waits _ _ _ h).opEff
    · rw [readHolding_serial a hs]
      exact (srRead_waits _ _ _ h).opEff
  · exact ⟨⟨_, exec_wrh_serial hs a v, (srWrh_waits .single a v h).opEffData⟩,
      ⟨_, exec_configUart_serial hs b p q, (srWrh_waits (.uartFirst _) (holdAddr 1) b h).opEffData⟩⟩
  · exact ⟨_, exec_configUart_serial hs b p q,
      ((uartAfterFirst_write_waits (s := writeStarted _ b s) _ hs h h2).after
        (writeStarted_comes (holdAddr 1) b s)).opEffData⟩

/- ### Operations that waited and go on -/

section
variable {s : State} {q : Sequence}

/-- A busy block goes on at its place in CONFIG_UART, the device having run on. -/
theorem step_resumes (busy : s.phase ≠ .idle) (hq : s.sequence = q) :
    step s = .next (q.after (resumePrimitive s.deviceRuns)) := by
  subst hq
  exact (step_busy busy).trans (congrArg Host.Outcome.next (resume_eq_after s.deviceRuns))

theorem step_dbStore (hp : s.phase = .dbStore) (hq : s.sequence = q) :
    step s = .next (q.after (dbStoreReturn s.deviceRuns)) := by
  rw [step_resumes (by simp [hp]) hq, resumePrimitive_dbStore (s := s.deviceRuns) hp]

theorem step_dbSelect (hp : s.phase = .dbSelect) (hq : s.sequence = q) :
    step s = .next (q.after (dbSelectReturn s.deviceRuns)) := by
  rw [step_resumes (by simp [hp]) hq, resumePrimitive_dbSelect (s := s.deviceRuns) hp]

theorem step_dbSettle (hp : s.phase = .dbSettle) (hq : s.sequence = q) :
    step s = .next (q.after (dbSettle s.deviceRuns)) := by
  rw [step_resumes (by simp [hp]) hq, resumePrimitive_dbSettle (s := s.deviceRuns) hp]

theorem step_dbFetch (hp : s.phase = .dbFetch) (hq : s.sequence = q) :
    step s = .next (q.after (dbFetchReturn s.deviceRuns)) := by
  rw [step_resumes (by simp [hp]) hq, resumePrimitive_dbFetch (s := s.deviceRuns) hp]

theorem step_dbPost (hp : s.phase = .dbPost) (hq : s.sequence = q) :
    step s = .next (q.after (dbPost s.deviceRuns)) := by
  rw [step_resumes (by simp [hp]) hq, resumePrimitive_dbPost (s := s.deviceRuns) hp]

theorem step_srWrite (hp : s.phase = .srXfer) (ho : s.latch.op = .wrh) (hq : s.sequence = q) :
    step s = .next (q.after (srWriteReturn s.deviceRuns)) := by
  rw [step_resumes (by simp [hp]) hq, resumePrimitive_write (s := s.deviceRuns) hp ho]

theorem step_srRead (hp : s.phase = .srXfer) (ho : s.latch.op ≠ .wrh) (hq : s.sequence = q) :
    step s = .next (q.after (srReadReturn s.deviceRuns)) := by
  rw [step_resumes (by simp [hp]) hq, resumePrimitive_read (s := s.deviceRuns) hp ho]

end

section
variable {s t : State} {es : List Entry} {r : Result} {d : Device}

/-- What goes on after the device has run on goes on from the step's beginning. -/
theorem DeliversWith.ran (h : DeliversWith s.deviceRuns t es r d) : DeliversWith s t es r d :=
  h.after (deviceRuns_comes s)

theorem DeliversWith.lands {m : DeviceMove}
    (h : DeliversWith s.deviceRuns t es r (deviceStore s.latch.eff s.latch.wdata m (ranOn s))) :
    Delivers s t es r ∧ LatchedWriteLands s t m := by
  refine ⟨h.ran.1, fun k hk => ?_⟩
  rw [h.2, hk, deviceStore_holdAddr]

theorem DeliversWith.bothLand {m m2 : DeviceMove} {w : Word}
    (h : DeliversWith s.deviceRuns t es r (sent 2 w m2 (deviceStore s.latch.eff s.latch.wdata m (ranOn s)))) :
    Delivers s t es r ∧ BothWritesLand s t m w m2 := by
  refine ⟨h.ran.1, fun k hk => ?_⟩
  rw [h.2, hk, deviceStore_holdAddr]

end

/-- Settles O37: the reply to the store, at each place in CONFIG_UART. -/
theorem waitingStoreGoesOn : Obligations.WaitingStoreGoesOn := by
  unfold Obligations.WaitingStoreGoesOn
  refine fun s hp => ⟨fun hq h => ⟨_, step_dbStore hp hq, ?_⟩, fun h => ⟨_, step_dbStore hp rfl, ?_⟩,
    fun w hq hd h => ⟨fun h2 => ⟨_, step_dbStore hp hq, ?_⟩, fun h2 => ⟨_, step_dbStore hp hq, ?_⟩,
      fun h2 => ⟨_, step_dbStore hp hq, ?_⟩⟩, fun first hq h => ⟨_, step_dbStore hp hq, ?_⟩⟩
  · exact (dbStoreReturn_done_ends (s := s.deviceRuns) h).single.lands
  · exact ((dbStoreReturn_failed_ends (s := s.deviceRuns) h).fault _).lands
  · exact (uartAfterFirst_store_done (s := s.deviceRuns) w hd h h2).bothLand
  · exact (uartAfterFirst_store_failed (s := s.deviceRuns) w hd h h2).bothLand
  · exact ((uartAfterFirst_store_waits (s := s.deviceRuns) w hd h h2).after (deviceRuns_comes s)).effData
  · exact ((dbStoreReturn_done_ends (s := s.deviceRuns) h).second first).lands

/-- Settles O40: the collaborator's reply to the write, at each place in CONFIG_UART. -/
theorem waitingSerialWriteGoesOn : Obligations.WaitingSerialWriteGoesOn := by
  unfold Obligations.WaitingSerialWriteGoesOn
  refine fun s hp ho => ⟨fun st hq h => ⟨_, step_srWrite hp ho hq, ?_⟩, fun h => ⟨_, step_srWrite hp ho rfl, ?_⟩,
    fun w st1 hq hs h => ⟨fun st2 h2 => ⟨_, step_srWrite hp ho hq, ?_⟩, fun h2 => ⟨_, step_srWrite hp ho hq, ?_⟩,
      fun h2 => ⟨_, step_srWrite hp ho hq, ?_⟩⟩, fun first st hq h => ⟨_, step_srWrite hp ho hq, ?_⟩⟩
  · exact (srWriteReturn_status_ends (s := s.deviceRuns) h).single.lands
  · exact ((srWriteReturn_failed_ends (s := s.deviceRuns) h).fault _).lands
  · exact (uartAfterFirst_write_status (s := s.deviceRuns) w hs h h2).bothLand
  · exact (uartAfterFirst_write_failed (s := s.deviceRuns) w hs h h2).bothLand
  · exact ((uartAfterFirst_write_waits (s := s.deviceRuns) w hs h h2).after (deviceRuns_comes s)).opEffData
  · exact ((srWriteReturn_status_ends (s := s.deviceRuns) h).second first).lands

/-- Settles O39: the collaborator's reply to the read. -/
theorem waitingSerialReadGoesOn : Obligations.WaitingSerialReadGoesOn := by
  unfold Obligations.WaitingSerialReadGoesOn
  intro s ans v hp hq ho h
  have read : s.latch.op ≠ .wrh := by rcases ho with ho | ho <;> simp [ho]
  exact ⟨_, step_srRead hp read hq, (srReadReturn_ends (s := s.deviceRuns) h).single.ran⟩

/-- A completed select leads through the settle delay to the reply to the block read. -/
theorem dbSelectReturn_fetches {s : State} (h : s.blockWriteReply.answer = .returned ()) :
    dbSelectReturn s = dbFetchReturn (fetchStarted (settleStarted s)) := dbSelectReturn_done h

theorem settled_comes (s : State) : Comes s (fetchStarted (settleStarted s)) .dbFetch (settleAndFetch s.cfg) :=
  (settleStarted_comes s).trans (fetchStarted_comes _)

/-- Settles O38: the select's reply, the settle delay, the block read's reply and the post delay, each from the phase it
belongs to. -/
theorem waitingDirectReadGoesOn : Obligations.WaitingDirectReadGoesOn := by
  unfold Obligations.WaitingDirectReadGoesOn
  intro s b0 b1 ans hq
  refine ⟨fun hp => ⟨fun hw => ⟨_, step_dbSelect hp hq, ?_⟩, fun hw hr => ⟨_, step_dbSelect hp hq, ?_⟩,
      fun hw hr => ⟨_, step_dbSelect hp hq, ?_⟩, fun hw hr => ⟨_, step_dbSelect hp hq, ?_⟩⟩,
    fun hp hr => ⟨_, step_dbSettle hp hq, ?_⟩,
    fun hp => ⟨fun hr => ⟨_, step_dbFetch hp hq, ?_⟩, fun hr => ⟨_, step_dbFetch hp hq, ?_⟩⟩,
    fun hp hl => ⟨_, step_dbPost hp hq, ?_⟩⟩
  · obtain ⟨delivers, device⟩ := (dbSelectReturn_failed_ends (s := s.deviceRuns) hw).single.ran
    exact ⟨delivers, (congrArg Device.holding device).trans rfl⟩
  · rw [dbSelectReturn_fetches (s := s.deviceRuns) hw]
    exact ((dbFetchReturn_two_ends (s := fetchStarted (settleStarted s.deviceRuns)) hr).single.after
      (settled_comes _)).ran
  · rw [dbSelectReturn_fetches (s := s.deviceRuns) hw]
    exact ((dbFetchReturn_fails_ends (s := fetchStarted (settleStarted s.deviceRuns)) hr).single.after
      (settled_comes _)).ran
  · rw [dbSelectReturn_fetches (s := s.deviceRuns) hw]
    exact ((dbFetchReturn_unanswered (s := fetchStarted (settleStarted s.deviceRuns)) hr).waits .single).after
      ((deviceRuns_comes s).trans (settled_comes _)) |>.1
  · exact ((dbFetchReturn_two_ends (s := fetchStarted s.deviceRuns) hr).single.after (fetchStarted_comes _)).ran.1
  · exact (dbFetchReturn_two_ends (s := s.deviceRuns) hr).single.ran
  · exact (dbFetchReturn_fails_ends (s := s.deviceRuns) hr).single.ran
  · exact (dbPost_ends (s := s.deviceRuns) hl).single.ran

end Sys2Proof.Machine
end

section
/-! PROOFS of the frames of reads and writes (20_memory section 4), and of what a following read brings (20_memory
sections 5 and 6). -/

namespace Sys2Proof.Machine

open Sys2Proof.Claims

/- ### What a write leaves of the device -/

theorem dbStoreReturn_device (s : State) : (dbStoreReturn s).after.device =
    deviceStore s.latch.eff s.latch.wdata s.blockWriteReply.move s.device := by
  rcases h : s.blockWriteReply.answer with u | _ | _
  · rw [dbStoreReturn_done h]; rfl
  · rw [dbStoreReturn_failed h]; rfl
  · rw [dbStoreReturn_pending h]; rfl

theorem srWriteReturn_device (s : State) : (srWriteReturn s).after.device =
    deviceStore s.latch.eff s.latch.wdata s.rtuWriteReply.move s.device := by
  rcases h : s.rtuWriteReply.answer with st | _ | _
  · rw [srWriteReturn_status h]; rfl
  · rw [srWriteReturn_failed h]; rfl
  · rw [srWriteReturn_pending h]; rfl

theorem writeHolding_device (k : Fin Catalog.nHold) (v : Word) (s : State) :
    (writeHolding (holdAddr k) v s).after.device =
      sent k v (if s.cfg.transport = .direct then s.blockWriteReply.move else s.rtuWriteReply.move) s.device := by
  rw [← deviceStore_holdAddr]
  rcases h : s.cfg.transport
  · rw [writeHolding_direct _ v h]; exact dbStoreReturn_device _
  · rw [writeHolding_serial _ v h]; exact srWriteReturn_device _

theorem single_device (p : Progress) : p.single.device = p.after.device := by cases p <;> rfl

/-- Settles O42: the reply to the one write, whatever it is, is where the device reacts. -/
theorem writeTouchesOneRegister : Obligations.WriteTouchesOneRegister := by
  unfold Obligations.WriteTouchesOneRegister
  intro s t k v h
  rw [exec_wrh_next h, single_device, writeHolding_device]

theorem uartAfterSecond_device (first : Status) (p : Progress) :
    (uartAfterSecond first p).device = p.after.device := by cases p <;> rfl

/-- After CONFIG_UART's first write the device stays, or H2 is sent the packed value. -/
theorem uartAfterFirst_device (packed : Word) (p : Progress) :
    (uartAfterFirst packed p).device = p.after.device ∨
      ∃ m, (uartAfterFirst packed p).device = sent 2 packed m p.after.device := by
  cases p with
  | waiting t => exact .inl rfl
  | ended r t =>
    cases r with
    | status first => exact .inr ⟨_, (uartAfterSecond_device first _).trans (writeHolding_device 2 packed t)⟩
    | fault c => exact .inl rfl
    | value v => exact .inl rfl

theorem sent_holding_same (k : Fin Catalog.nHold) (v : Word) (m : DeviceMove) (d : Device) :
    (sent k v m d).holding[k.val] = held m v := Vector.getElem_set_self _

theorem sent_holding_other {j k : Fin Catalog.nHold} (h : j ≠ k) (v : Word) (m : DeviceMove) (d : Device) :
    (sent j v m d).holding[k.val] = d.holding[k.val] :=
  Vector.getElem_set_ne j.isLt k.isLt fun same => h (Fin.ext same)

/-- Settles O43: H1 is sent a value, then H2 is or is not. -/
theorem configUartTouchesTwoRegisters : Obligations.ConfigUartTouchesTwoRegisters := by
  unfold Obligations.ConfigUartTouchesTwoRegisters
  intro s t b p q h
  obtain rfl : uartAfterFirst (packUart p q) (writeHolding (holdAddr 1) b s) = t := Host.Outcome.next.inj h
  have first := writeHolding_device 1 b s
  rcases uartAfterFirst_device (packUart p q) (writeHolding (holdAddr 1) b s) with stays | ⟨m, second⟩
  · rw [stays, first]
    exact ⟨rfl, fun k h1 _ => sent_holding_other h1.symm _ _ _⟩
  · rw [second, first]
    exact ⟨rfl, fun k h1 h2 => (sent_holding_other h2.symm _ _ _).trans (sent_holding_other h1.symm _ _ _)⟩

/- ### What a read leaves of the device -/

/-- What the device may do on its own while a read of `s` is under way: its moves at the replies and in the post
delay. -/
def ownMoves (s : State) : List Drift :=
  [s.blockWriteReply.move.toDrift, s.blockReadReply.move.toDrift, s.rtuReadReply.move.toDrift, s.nextDrift]

theorem select_mem_ownMoves (s : State) : s.blockWriteReply.move.toDrift ∈ ownMoves s := .head _
theorem fetch_mem_ownMoves (s : State) : s.blockReadReply.move.toDrift ∈ ownMoves s := .tail _ (.head _)
theorem read_mem_ownMoves (s : State) : s.rtuReadReply.move.toDrift ∈ ownMoves s := .tail _ (.tail _ (.head _))
theorem post_mem_ownMoves (s : State) : s.nextDrift ∈ ownMoves s := .tail _ (.tail _ (.tail _ (.head _)))

/-- From `d` to `d'` the device has done no more than move on its own. -/
structure OnlyDrifts (s : State) (d d' : Device) : Prop where
  holding  : d'.holding = d.holding
  selector : d'.selector = d.selector
  input    : (∀ m ∈ ownMoves s, m.input = none) → d'.input = d.input
  live     : (∀ m ∈ ownMoves s, m.live = none) → d'.live = d.live

theorem OnlyDrifts.trans {s : State} {d d' d'' : Device} (h : OnlyDrifts s d d') (k : OnlyDrifts s d' d'') :
    OnlyDrifts s d d'' :=
  ⟨k.holding.trans h.holding, k.selector.trans h.selector, fun hm => (k.input hm).trans (h.input hm),
    fun hm => (k.live hm).trans (h.live hm)⟩

theorem onlyDrifts_of_move {s : State} {m : Drift} (hm : m ∈ ownMoves s) (d : Device) :
    OnlyDrifts s d (deviceDrift m d) :=
  ⟨rfl, rfl, fun none => by rw [deviceDrift_input, none m hm]; rfl,
    fun none => by rw [deviceDrift_live, none m hm]; rfl⟩

theorem dbFetchReturn_onlyDrifts {s u : State} (read : u.blockReadReply.move.toDrift ∈ ownMoves s)
    (post : u.nextDrift ∈ ownMoves s) :
    OnlyDrifts s u.device (dbFetchReturn u).after.device := by
  have fetched : OnlyDrifts s u.device (fetchAnswered u).device := onlyDrifts_of_move read _
  rcases h : u.blockReadReply.answer with sup | _ | _
  · by_cases hl : (directBytes sup (fetchAnswered u).device u.env.blockReads.drawn).length = 2
    · obtain ⟨b0, b1, hb⟩ := two_bytes hl
      rw [dbFetchReturn_two h hb]
      exact fetched.trans (onlyDrifts_of_move post _)
    · rw [dbFetchReturn_length h hl]
      exact fetched
  · rw [dbFetchReturn_failed h]
    exact fetched
  · rw [dbFetchReturn_pending h]
    exact fetched

/-- A read on the direct bus sets the selector, to the effective address if its select completes, and does no more. -/
theorem dbRead_onlyDrifts (op : Primitive) (a e : Word) (s : State) :
    ∃ x, (s.blockWriteReply.answer = .returned () → x = e) ∧
      OnlyDrifts s { s.device with selector := x } (dbRead op a e s).after.device := by
  rcases h : s.blockWriteReply.answer with u | _ | _
  · have selected : OnlyDrifts s { s.device with selector := e } (fetchIssued op a e s).device :=
      onlyDrifts_of_move (select_mem_ownMoves s) _
    rw [dbRead_done op a e h]
    exact ⟨e, fun _ => rfl, selected.trans (dbFetchReturn_onlyDrifts (fetch_mem_ownMoves s) (post_mem_ownMoves s))⟩
  · rw [dbRead_failed op a e h]
    exact ⟨_, nofun, onlyDrifts_of_move (select_mem_ownMoves s) _⟩
  · rw [dbRead_pending op a e h]
    exact ⟨_, nofun, onlyDrifts_of_move (select_mem_ownMoves s) _⟩

theorem srReadReturn_device (s : State) :
    (srReadReturn s).after.device = deviceDrift s.rtuReadReply.move.toDrift s.device := by
  rcases h : s.rtuReadReply.answer with sup | _ | _
  · rw [srReadReturn_bytes h]; rfl
  · rw [srReadReturn_failed h]; rfl
  · rw [srReadReturn_pending h]; rfl

theorem srRead_onlyDrifts (op : Primitive) (a : Word) (e : WireEvent) (s : State) :
    OnlyDrifts s s.device (srReadReturn (readStarted op a e s)).after.device := by
  rw [srReadReturn_device]
  exact onlyDrifts_of_move (read_mem_ownMoves s) _

/-- The frame of a read of effective address `eff` from `s` to `t`. -/
def ReadFrame (s t : State) (eff : Word) : Prop :=
  ∃ x, (s.cfg.transport = .serial → x = s.device.selector) ∧
    (s.cfg.transport = .direct → s.blockWriteReply.answer = .returned () → x = eff) ∧
    OnlyDrifts s { s.device with selector := x } t.device

theorem readFrame_of_direct {s : State} (hd : s.cfg.transport = .direct) (op : Primitive) (a e : Word) :
    ReadFrame s (dbRead op a e s).single e := by
  obtain ⟨x, selected, drifts⟩ := dbRead_onlyDrifts op a e s
  exact ⟨x, fun hs => (by cases hd.symm.trans hs), fun _ => selected, single_device _ ▸ drifts⟩

theorem readFrame_of_serial {s : State} (hs : s.cfg.transport = .serial) (op : Primitive) (a eff : Word)
    (e : WireEvent) : ReadFrame s (srReadReturn (readStarted op a e s)).single eff :=
  ⟨_, fun _ => rfl, fun hd => (by cases hs.symm.trans hd), single_device _ ▸ srRead_onlyDrifts op a e s⟩

theorem readInput_frame (a : Word) (s : State) : ReadFrame s (readInput a s).single (plusSix a) := by
  rcases h : s.cfg.transport
  · rw [readInput_direct a h, inputEff_eq_plusSix]
    exact readFrame_of_direct h _ _ _
  · rw [readInput_serial a h]
    exact readFrame_of_serial h _ _ _ _

theorem readHolding_frame (a : Word) (s : State) : ReadFrame s (readHolding a s).single a := by
  rcases h : s.cfg.transport
  · rw [readHolding_direct a h]
    exact readFrame_of_direct h _ _ _
  · rw [readHolding_serial a h]
    exact readFrame_of_serial h _ _ _ _

/-- Settles O41: every read, a getter too, is an input or a holding read, whose frame is known. -/
theorem readsChangeOnlyTheSelector : Obligations.ReadsChangeOnlyTheSelector := by
  unfold Obligations.ReadsChangeOnlyTheSelector
  intro i s t eff read h
  have frame : ReadFrame s t eff := by
    rcases read with ⟨a, x, rfl, rfl⟩ | ⟨a, x, rfl, rfl⟩ | ⟨g, hg, x, rfl, rfl⟩
    · obtain rfl : (readInput a s).single = t := Host.Outcome.next.inj h
      exact readInput_frame a s
    · obtain rfl : (readHolding eff s).single = t := Host.Outcome.next.inj h
      exact readHolding_frame eff s
    · obtain rfl : (readInput g.2 s).single = t := Host.Outcome.next.inj ((exec_getter hg x s).symm.trans h)
      exact readInput_frame g.2 s
  obtain ⟨x, serial, direct, drifts⟩ := frame
  refine ⟨drifts.holding, fun hs => drifts.selector.trans (serial hs),
    fun hd hw => drifts.selector.trans (direct hd hw),
    fun h1 h2 h3 h4 => drifts.input ?_, fun h1 h2 h3 h4 => drifts.live ?_⟩
  · simp [ownMoves, h1, h2, h3, h4]
  · simp [ownMoves, h1, h2, h3, h4]

/- ### The first event after SET_ADDR -/

/-- The event an operation starts by issuing stands first among those it adds. -/
theorem Comes.first_event {s u : State} {ph : Phase} {e : WireEvent} (c : Comes s u ph [.wire e]) (busy : ph ≠ .idle) :
    ∃ l, wireEvents (resumePrimitive u).single.record = wireEvents s.record ++ e :: l := by
  obtain ⟨m, grown⟩ := (resumePrimitive_onItsWay (c.phase ▸ busy)).keeps.record
  refine ⟨wireEvents m, ?_⟩
  rw [single_wireEvents, ← grown, c.record]
  simp [wireEvents_append]

theorem readInput_first_event (a : Word) (s : State) :
    ∃ l, wireEvents (readInput a s).single.record = wireEvents s.record ++
      (if s.cfg.transport = .direct then .blockWrite s.cfg.devAddr (selCmd (inputEff a)) [lowByte (inputEff a)]
        else .rtuReadInput s.cfg.devAddr a 1) :: l := by
  rw [readInput_eq]
  rcases h : s.cfg.transport <;> simp only [inputReadStarted, h]
  · exact (selectStarted_comes _ _ _ s).first_event nofun
  · exact (readStarted_comes _ _ _ s).first_event nofun

/-- Settles O46: SET_ADDR, like every operation, keeps the configuration, and GET_PID issues its event with it. -/
theorem setAddrKeepsLocalIdentity : Obligations.SetAddrKeepsLocalIdentity := by
  unfold Obligations.SetAddrKeepsLocalIdentity
  intro s t u v x ht hu
  have cfg : t.cfg = s.cfg := (exec_sameSetup ht).cfg
  refine ⟨by rw [(exec_sameSetup hu).cfg, cfg], ?_⟩
  obtain rfl : (readInput Catalog.pid t).single = u := Host.Outcome.next.inj hu
  obtain ⟨l, first⟩ := readInput_first_event Catalog.pid t
  rw [cfg] at first
  exact ⟨_, l, first, rfl⟩

end Sys2Proof.Machine
end

section
/-! PROOFS about what a read brings: the register's content where the device answers from its registers (20_memory
sections 5 and 6), and that neither the latches found nor the name of a direct-bus read matter (41_direct_bus section 4,
10_state section 9). -/

namespace Sys2Proof.Machine

open Sys2Proof.Claims

/- ### The latches an operation finds -/

/-- Two primitive operations have come equally far, to the same state but, where they wait, for the latches. -/
inductive ApartFromLatches : Progress → Progress → Prop
  | waiting (t : State) (l : Latch) : ApartFromLatches (.waiting t) (.waiting { t with latch := l })
  | ended (r : Result) (t : State) : ApartFromLatches (.ended r t) (.ended r t)

theorem ApartFromLatches.single {p p' : Progress} (h : ApartFromLatches p p') :
    p'.single = { p.single with latch := p'.single.latch } := by
  cases h <;> rfl

theorem ApartFromLatches.uartAfterFirst {p p' : Progress} (packed : Word) (h : ApartFromLatches p p') :
    Machine.uartAfterFirst packed p' =
      { Machine.uartAfterFirst packed p with latch := (Machine.uartAfterFirst packed p').latch } := by
  cases h <;> rfl

theorem dbFetchReturn_apart (s : State) (l : Latch) :
    ApartFromLatches (dbFetchReturn s) (dbFetchReturn { s with latch := l }) := by
  rcases h : s.blockReadReply.answer with sup | _ | _
  · by_cases hl : (directBytes sup (fetchAnswered s).device s.env.blockReads.drawn).length = 2
    · obtain ⟨b0, b1, hb⟩ := two_bytes hl
      rw [dbFetchReturn_two h hb, dbFetchReturn_two (s := { s with latch := l }) h hb]
      exact .ended _ _
    · rw [dbFetchReturn_length h hl, dbFetchReturn_length (s := { s with latch := l }) h hl]
      exact .ended _ _
  · rw [dbFetchReturn_failed h, dbFetchReturn_failed (s := { s with latch := l }) h]
    exact .ended _ _
  · rw [dbFetchReturn_pending h, dbFetchReturn_pending (s := { s with latch := l }) h]
    exact .waiting _ _

/-- A direct-bus read depends on its effective address alone: not on its name, its address, or the latches it finds. -/
theorem dbRead_apart (op op' : Primitive) (a a' e : Word) (s : State) (l : Latch) :
    ApartFromLatches (dbRead op a e s) (dbRead op' a' e { s with latch := l }) := by
  rcases h : s.blockWriteReply.answer with u | _ | _
  · rw [dbRead_done op a e h, dbRead_done op' a' e (s := { s with latch := l }) h]
    exact dbFetchReturn_apart (fetchIssued op a e s) _
  · rw [dbRead_failed op a e h, dbRead_failed op' a' e (s := { s with latch := l }) h]
    exact .ended _ _
  · rw [dbRead_pending op a e h, dbRead_pending op' a' e (s := { s with latch := l }) h]
    exact .waiting _ _

theorem srRead_apart (op : Primitive) (a : Word) (e : WireEvent) (s : State) (l : Latch) :
    ApartFromLatches (srReadReturn (readStarted op a e s))
      (srReadReturn (readStarted op a e { s with latch := l })) := by
  rcases h : (readStarted op a e s).rtuReadReply.answer with sup | _ | _
  · rw [srReadReturn_bytes h, srReadReturn_bytes (s := readStarted op a e { s with latch := l }) h]
    exact .ended _ _
  · rw [srReadReturn_failed h, srReadReturn_failed (s := readStarted op a e { s with latch := l }) h]
    exact .ended _ _
  · rw [srReadReturn_pending h, srReadReturn_pending (s := readStarted op a e { s with latch := l }) h]
    exact .waiting _ _

theorem dbWrh_apart (a v : Word) (s : State) (l : Latch) :
    ApartFromLatches (dbWrh a v s) (dbWrh a v { s with latch := l }) := by
  show ApartFromLatches (dbStoreReturn (storeStarted a v s)) (dbStoreReturn (storeStarted a v { s with latch := l }))
  rcases h : (storeStarted a v s).blockWriteReply.answer with u | _ | _
  · rw [dbStoreReturn_done h, dbStoreReturn_done (s := storeStarted a v { s with latch := l }) h]
    exact .ended _ _
  · rw [dbStoreReturn_failed h, dbStoreReturn_failed (s := storeStarted a v { s with latch := l }) h]
    exact .ended _ _
  · rw [dbStoreReturn_pending h, dbStoreReturn_pending (s := storeStarted a v { s with latch := l }) h]
    exact .waiting _ _

theorem srWrh_apart (a v : Word) (s : State) (l : Latch) :
    ApartFromLatches (srWrh a v s) (srWrh a v { s with latch := l }) := by
  show ApartFromLatches (srWriteReturn (writeStarted a v s)) (srWriteReturn (writeStarted a v { s with latch := l }))
  rcases h : (writeStarted a v s).rtuWriteReply.answer with st | _ | _
  · rw [srWriteReturn_status h, srWriteReturn_status (s := writeStarted a v { s with latch := l }) h]
    exact .ended _ _
  · rw [srWriteReturn_failed h, srWriteReturn_failed (s := writeStarted a v { s with latch := l }) h]
    exact .ended _ _
  · rw [srWriteReturn_pending h, srWriteReturn_pending (s := writeStarted a v { s with latch := l }) h]
    exact .waiting _ _

theorem readInput_apart (a : Word) (s : State) (l : Latch) :
    ApartFromLatches (readInput a s) (readInput a { s with latch := l }) := by
  rcases h : s.cfg.transport
  · rw [readInput_direct a h, readInput_direct a (s := { s with latch := l }) h]
    exact dbRead_apart _ _ _ _ _ s l
  · rw [readInput_serial a h, readInput_serial a (s := { s with latch := l }) h]
    exact srRead_apart _ _ _ s l

theorem readHolding_apart (a : Word) (s : State) (l : Latch) :
    ApartFromLatches (readHolding a s) (readHolding a { s with latch := l }) := by
  rcases h : s.cfg.transport
  · rw [readHolding_direct a h, readHolding_direct a (s := { s with latch := l }) h]
    exact dbRead_apart _ _ _ _ _ s l
  · rw [readHolding_serial a h, readHolding_serial a (s := { s with latch := l }) h]
    exact srRead_apart _ _ _ s l

theorem writeHolding_apart (a v : Word) (s : State) (l : Latch) :
    ApartFromLatches (writeHolding a v s) (writeHolding a v { s with latch := l }) := by
  rcases h : s.cfg.transport
  · rw [writeHolding_direct a v h, writeHolding_direct a v (s := { s with latch := l }) h]
    exact dbWrh_apart a v s l
  · rw [writeHolding_serial a v h, writeHolding_serial a v (s := { s with latch := l }) h]
    exact srWrh_apart a v s l

/-- Settles O54: every operation is a read, a write or CONFIG_UART's two, none of which reads the latches it finds. -/
theorem idleLatchesAreNeverRead : Obligations.IdleLatchesAreNeverRead := by
  unfold Obligations.IdleLatchesAreNeverRead
  intro i s t l h
  cases i with
  | wrh a v =>
    have form : s.cfg.transport = .direct → a.toNat < 256 := fun hd => by
      by_contra wide
      cases h.symm.trans (wideStoreOnDirectIsRefused s a v hd (not_lt.mp wide))
    rw [exec_wrh_next h]
    exact ⟨_, exec_wrh v form, (writeHolding_apart a v s l).single⟩
  | rdh a x =>
    obtain rfl := Host.Outcome.next.inj h
    exact ⟨_, rfl, (readHolding_apart a s l).single⟩
  | configUart b p q =>
    obtain rfl := Host.Outcome.next.inj h
    exact ⟨_, rfl, (writeHolding_apart _ b s l).uartAfterFirst _⟩
  | reserved a x =>
    obtain rfl := Host.Outcome.next.inj h
    exact ⟨_, rfl, rfl⟩
  | setAddr v =>
    obtain rfl := Host.Outcome.next.inj h
    exact ⟨_, rfl, (writeHolding_apart _ v s l).single⟩
  | setFaceDetectThres v =>
    obtain rfl := Host.Outcome.next.inj h
    exact ⟨_, rfl, (writeHolding_apart _ v s l).single⟩
  | setFaceScoreThres v =>
    obtain rfl := Host.Outcome.next.inj h
    exact ⟨_, rfl, (writeHolding_apart _ v s l).single⟩
  | setGestureScoreThres v =>
    obtain rfl := Host.Outcome.next.inj h
    exact ⟨_, rfl, (writeHolding_apart _ v s l).single⟩
  | _ =>
    obtain rfl := Host.Outcome.next.inj h
    exact ⟨_, rfl, (readInput_apart _ s l).single⟩

/-- Settles O52: on the direct bus both are the read of the same effective address. -/
theorem directReadsAliasAcrossTheOffset : Obligations.DirectReadsAliasAcrossTheOffset := by
  unfold Obligations.DirectReadsAliasAcrossTheOffset
  intro s t a x y hd h
  obtain rfl : (readInput a s).single = t := Host.Outcome.next.inj h
  refine ⟨_, rfl, ?_⟩
  rw [readInput_direct a hd, readHolding_direct _ hd, inputEff_eq_plusSix]
  exact (dbRead_apart .rdi .rdh a (plusSix a) (plusSix a) s s.latch).single

/- ### The registers of the device, by address -/

theorem phys?_holdAddr (k : Fin Catalog.nHold) (d : Device) : phys? d (holdAddr k) = some d.holding[k.val] := by
  simp [phys?, holdAddr_toNat, k.isLt]

theorem register?_holdAddr (k : Fin Catalog.nHold) (d : Device) :
    register? d .hold (holdAddr k) = some d.holding[k.val] := by
  simp [register?, holdAddr_toNat, k.isLt]

theorem inputAddr_toNat (k : Fin Catalog.nInput) : (BitVec.ofNat 16 k.val).toNat = k.val :=
  (BitVec.toNat_ofNat k.val 16).trans (Nat.mod_eq_of_lt (k.isLt.trans (by decide)))

theorem register?_input (k : Fin Catalog.nInput) (d : Device) :
    register? d .input (BitVec.ofNat 16 k.val) = some d.input[k.val] := by
  simp only [register?, inputAddr_toNat, k.isLt, dite_true]

/-- The input bank lies on the one address line six above its own addresses, past the holding bank (R61). -/
theorem phys?_input (k : Fin Catalog.nInput) (d : Device) :
    phys? d (inputEff (BitVec.ofNat 16 k.val)) = some d.input[k.val] := by
  have back : inputEff (BitVec.ofNat 16 k.val) - Catalog.inputOffset = BitVec.ofNat 16 k.val :=
    BitVec.add_sub_cancel _ _
  have past : ¬ (inputEff (BitVec.ofNat 16 k.val)).toNat < Catalog.nHold := by
    have inside : k.val < 10 := k.isLt
    rw [inputEff_toNat, inputAddr_toNat]
    show ¬ (k.val + 6) % 65536 < 6
    omega
  simp only [phys?, past, back, inputAddr_toNat, k.isLt, dite_true, dite_false]

/- ### Answers from the registers -/

/-- A block read answered from the registers brings the content of the selected one. -/
theorem dbRead_contents (op : Primitive) (a e : Word) {s : State} {v : Word}
    (hw : s.blockWriteReply.answer = .returned ()) (hr : s.blockReadReply.answer = .returned .contents)
    (hv : phys? (moved s.blockReadReply.move.toDrift (pointed e s.blockWriteReply.move s.device)) e = some v) :
    outcomes (dbRead op a e s).single.record = outcomes s.record ++ [.value v] := by
  have bytes : directBytes .contents (fetchAnswered (fetchIssued op a e s)).device
      (fetchIssued op a e s).env.blockReads.drawn = [highByte v, lowByte v] := by
    show split ((phys? (moved s.blockReadReply.move.toDrift (pointed e s.blockWriteReply.move s.device)) e).getD _) = _
    rw [hv]
    rfl
  rw [dbRead_done op a e hw, dbFetchReturn_two (s := fetchIssued op a e s) hr bytes, combine_split]
  refine (deliver_outcomes _ _).trans ?_
  simp [outcomes_append, fetchAnswered]

/-- A serial read answered from the registers brings the content of the one asked for. -/
theorem srRead_contents (op : Primitive) (a : Word) (e : WireEvent) {s : State} {v : Word}
    (hr : s.rtuReadReply.answer = .returned .contents)
    (hv : register? (moved s.rtuReadReply.move.toDrift s.device) (spaceOf op) a = some v) :
    outcomes (srReadReturn (readStarted op a e s)).single.record = outcomes s.record ++ [.value v] := by
  have bytes : serialBytes .contents (readAnswered (readStarted op a e s)).device
      (spaceOf (readStarted op a e s).latch.op) (readStarted op a e s).latch.eff
      (readStarted op a e s).env.rtuReads.drawn = [Config.header s.env.rtuReads.drawn, highByte v, lowByte v] := by
    show Config.header _ :: split ((register? (moved s.rtuReadReply.move.toDrift s.device) (spaceOf op) a).getD _) = _
    rw [hv]
    rfl
  have ended := srReadReturn_bytes (s := readStarted op a e s) hr
  simp only [bytes, decodeRsp_cons, combine_split] at ended
  rw [ended]
  refine (deliver_outcomes _ _).trans ?_
  simp [outcomes_append, readAnswered, readStarted]

/-- Settles O55: the selected or requested register is the input register. -/
theorem rdiReachesItsInputRegister : Obligations.RdiReachesItsInputRegister := by
  unfold Obligations.RdiReachesItsInputRegister
  refine fun s k x => ⟨fun hd hw hr => ⟨_, rfl, ?_⟩, fun hs hr => ⟨_, rfl, ?_⟩⟩
  · rw [readInput_direct _ hd]
    exact dbRead_contents _ _ _ hw hr (phys?_input k _)
  · rw [readInput_serial _ hs]
    exact srRead_contents _ _ _ hr (register?_input k _)

/-- A register that takes what it is sent holds it. -/
theorem sent_holding_taken {m : DeviceMove} (h : m.uptake = .taken) (k : Fin Catalog.nHold) (v : Word) (d : Device) :
    (sent k v m d).holding[k.val] = v := by
  rw [sent_holding_same, held, h]

/-- Settles O56: the write leaves the register with the value, and neither its own nor the read's moves of the device
reach the holding bank. -/
theorem writtenValueReadsBack : Obligations.WrittenValueReadsBack := by
  unfold Obligations.WrittenValueReadsBack
  intro s t k v x h
  rw [exec_wrh_next h]
  refine ⟨fun hd hw taken hw2 hr => ⟨_, rfl, ?_⟩, fun hs hw taken hr => ⟨_, rfl, ?_⟩⟩
  · have written : (writeHolding (holdAddr k) v s).single =
        (storeDone (storeStarted (holdAddr k) v s)).deliver (.status .ok) := by
      rw [writeHolding_direct _ v hd]
      exact congrArg Progress.single (dbStoreReturn_done (s := storeStarted (holdAddr k) v s) hw)
    rw [written, readHolding_direct _ (s := (storeDone (storeStarted (holdAddr k) v s)).deliver (.status .ok)) hd]
    refine dbRead_contents _ _ _ hw2 hr ((phys?_holdAddr k _).trans (congrArg some ?_))
    show (deviceStore (holdAddr k) v s.blockWriteReply.move s.device).holding[k.val] = v
    rw [deviceStore_holdAddr]
    exact sent_holding_taken taken k v _
  · have written : (writeHolding (holdAddr k) v s).single =
        (writeDone .ok (writeStarted (holdAddr k) v s)).deliver (.status .ok) := by
      rw [writeHolding_serial _ v hs]
      exact congrArg Progress.single (srWriteReturn_status (s := writeStarted (holdAddr k) v s) hw)
    rw [written, readHolding_serial _ (s := (writeDone .ok (writeStarted (holdAddr k) v s)).deliver (.status .ok)) hs]
    refine srRead_contents _ _ _ hr ((register?_holdAddr k _).trans (congrArg some ?_))
    show (deviceStore (holdAddr k) v s.rtuWriteReply.move s.device).holding[k.val] = v
    rw [deviceStore_holdAddr]
    exact sent_holding_taken taken k v _

end Sys2Proof.Machine
end
